-- ==== Sys2Proof/Word.lean ====
section
/-! DEFINITION. The word types of the panel controller and the named values of its one- and two-bit operands
(00_scope.md R13, R19; 10_state.md R24, R30, R31). -/

namespace Sys2Proof

/-- A byte: a framebuffer byte, a wire byte (00_scope.md R13). -/
abbrev Byte := BitVec 8

/-- A 16-bit operand field of an ARG register (30_encoding.md R95). -/
abbrev Half := BitVec 16

/-- A 32-bit host register (10_state.md R24). -/
abbrev Word := BitVec 32

/-- The two colours the block knows (00_scope.md R19). -/
inductive Colour where
  | black
  | white
deriving DecidableEq, Repr

/-- The four framebuffer orientations (10_state.md R31). -/
inductive Rotation where
  | deg0
  | deg90
  | deg180
  | deg270
deriving DecidableEq, Repr

/-- The operand fields of a REQ0 word (10_state.md R25). Every request word has all three; a request ignores
those it does not read (30_encoding.md R94). -/
structure ReqFields where
  /-- REQ0[8], COLOR. -/
  color : Colour
  /-- REQ0[10:9], ROTF. -/
  rotf : Rotation
  /-- REQ0[23:16], LUTSEL. -/
  lutsel : Byte
deriving DecidableEq, Repr

end Sys2Proof
end

