-- ==== Sys2Proof/Syntax.lean ====
section
/-! DEFINITION. The instruction set: one constructor per row of opcode_table.json. The first nineteen are the host
requests (format H, 30_encoding.md R92), the other twenty-one the wire commands (format W, 30_encoding.md R100). -/

namespace Sys2Proof

/-- A host request with the operand fields of its REQ0 word, or a wire command by its name. -/
inductive Instr where
  /-- INIT: 42_lifecycle.md R192. -/
  | init (f : ReqFields)
  /-- WAKE: 42_lifecycle.md R193. -/
  | wake (f : ReqFields)
  /-- SLEEP: 42_lifecycle.md R195. -/
  | sleep (f : ReqFields)
  /-- UPDATE_FULL: 43_frame_transfer.md R222. -/
  | updateFull (f : ReqFields)
  /-- UPDATE_PARTIAL: 43_frame_transfer.md R225. -/
  | updatePartial (f : ReqFields)
  /-- DISPLAY: 43_frame_transfer.md R229. -/
  | display (f : ReqFields)
  /-- UPDATE_AND_DISPLAY: 43_frame_transfer.md R230. -/
  | updateAndDisplay (f : ReqFields)
  /-- LOAD_LUTS: 42_lifecycle.md R197. -/
  | loadLuts (f : ReqFields)
  /-- CLEAR_FRAME: 43_frame_transfer.md R231. -/
  | clearFrame (f : ReqFields)
  /-- SET_BG: 40_framebuffer.md R142. -/
  | setBg (f : ReqFields)
  /-- GET_BG: 40_framebuffer.md R143. -/
  | getBg (f : ReqFields)
  /-- GET_SIZE: 40_framebuffer.md R144. -/
  | getSize (f : ReqFields)
  /-- SET_ROTATION: 40_framebuffer.md R137. -/
  | setRotation (f : ReqFields)
  /-- GET_ROTATION: 40_framebuffer.md R138. -/
  | getRotation (f : ReqFields)
  /-- DRAW_PIXEL: 40_framebuffer.md R135. -/
  | drawPixel (f : ReqFields)
  /-- FB_READ: 40_framebuffer.md R139. -/
  | fbRead (f : ReqFields)
  /-- FB_WRITE: 40_framebuffer.md R140. -/
  | fbWrite (f : ReqFields)
  /-- FB_FILL: 40_framebuffer.md R141. -/
  | fbFill (f : ReqFields)
  /-- RBUF_WRITE: 40_framebuffer.md R145. -/
  | rbufWrite (f : ReqFields)
  /-- PANEL_SETTING: wire command, 30_encoding.md R100. -/
  | panelSetting
  /-- POWER_SETTING: wire command, 30_encoding.md R100. -/
  | powerSetting
  /-- POWER_OFF: wire command, 30_encoding.md R100. -/
  | powerOff
  /-- POWER_ON: wire command, 30_encoding.md R100. -/
  | powerOn
  /-- BOOSTER_SOFT_START: wire command, 30_encoding.md R100. -/
  | boosterSoftStart
  /-- DEEP_SLEEP: wire command, 30_encoding.md R100. -/
  | deepSleep
  /-- DATA_START_TRANSMISSION_1: wire command, 30_encoding.md R100. -/
  | dataStartTransmission1
  /-- DATA_STOP: wire command, 30_encoding.md R100. -/
  | dataStop
  /-- DISPLAY_REFRESH: wire command, 30_encoding.md R100. -/
  | displayRefresh
  /-- DATA_START_TRANSMISSION_2: wire command, 30_encoding.md R100. -/
  | dataStartTransmission2
  /-- PARTIAL_DATA_START_TRANSMISSION_1: wire command, 30_encoding.md R100. -/
  | partialDataStartTransmission1
  /-- PARTIAL_DISPLAY_REFRESH: wire command, 30_encoding.md R100. -/
  | partialDisplayRefresh
  /-- LUT_VCOM: wire command, 30_encoding.md R100. -/
  | lutVcom
  /-- LUT_WW: wire command, 30_encoding.md R100. -/
  | lutWw
  /-- LUT_BW: wire command, 30_encoding.md R100. -/
  | lutBw
  /-- LUT_WB: wire command, 30_encoding.md R100. -/
  | lutWb
  /-- LUT_BB: wire command, 30_encoding.md R100. -/
  | lutBb
  /-- PLL_CONTROL: wire command, 30_encoding.md R100. -/
  | pllControl
  /-- VCOM_AND_DATA_INTERVAL_SETTING: wire command, 30_encoding.md R100. -/
  | vcomAndDataIntervalSetting
  /-- VCM_DC_SETTING: wire command, 30_encoding.md R100. -/
  | vcmDcSetting
  /-- POWER_OPTIMIZATION: wire command, 30_encoding.md R100. -/
  | powerOptimization
deriving DecidableEq, Repr

end Sys2Proof
end

