-- ==== Sys2Proof/Decode.lean ====
section
/-! DEFINITION. Decoding and encoding of both encoding spaces (30_encoding.md): the REQ0 request word (format H,
R91 to R94) and the wire command byte (format W, R99 to R101). -/

namespace Sys2Proof

/-- An encoded instruction, in one of the block's two encoding spaces (30_encoding.md R90). -/
inductive Code where
  /-- A request word as the host writes it to REQ0. -/
  | request (w : Word)
  /-- A byte sent with the data/command line in the command state. -/
  | command (b : Byte)
deriving DecidableEq, Repr

/-- Why the decoder rejects an encoding. -/
inductive DecodeError where
  /-- REQ0[15:11] or REQ0[31:24] is not zero (30_encoding.md R94). -/
  | reservedField
  /-- REQ0.OP selects no operation (30_encoding.md R93). -/
  | reservedOperation
  /-- The byte is no OPC value (30_encoding.md R101). -/
  | notACommand
deriving DecidableEq, Repr

/-! ## Operand fields -/

/-- COLOR and BG as a bit: 1 = White, 0 = Black (10_state.md R25, 40_framebuffer.md R131). -/
def Colour.bit : Colour → BitVec 1
  | .black => 0#1
  | .white => 1#1

/-- The colour a bit stands for (40_framebuffer.md R131). -/
def Colour.ofBit (b : BitVec 1) : Colour :=
  if b = 1#1 then .white else .black

/-- ROTF and ROT as two bits (10_state.md R25, R31). -/
def Rotation.bits : Rotation → BitVec 2
  | .deg0 => 0#2
  | .deg90 => 1#2
  | .deg180 => 2#2
  | .deg270 => 3#2

/-- The orientation two bits stand for (10_state.md R31). -/
def Rotation.ofBits (b : BitVec 2) : Rotation :=
  if b = 0#2 then .deg0 else if b = 1#2 then .deg90 else if b = 2#2 then .deg180 else .deg270

/-- The operand fields of a request word (10_state.md R25). -/
def reqFields (w : Word) : ReqFields where
  color := Colour.ofBit (w.extractLsb' 8 1)
  rotf := Rotation.ofBits (w.extractLsb' 9 2)
  lutsel := w.extractLsb' 16 8

/-! ## The opcode tables -/

/-- The value a table lists for a byte. -/
def lookupCode {α : Type} : List (Byte × α) → Byte → Option α
  | [], _ => none
  | (c, a) :: rows, b => if b = c then some a else lookupCode rows b

/-- Host operation codes (30_encoding.md R92). -/
def requestTable : List (Byte × (ReqFields → Instr)) :=
  [ (0x01#8, .init),
    (0x02#8, .wake),
    (0x03#8, .sleep),
    (0x04#8, .updateFull),
    (0x05#8, .updatePartial),
    (0x06#8, .display),
    (0x07#8, .updateAndDisplay),
    (0x08#8, .loadLuts),
    (0x09#8, .clearFrame),
    (0x10#8, .setBg),
    (0x11#8, .getBg),
    (0x12#8, .getSize),
    (0x13#8, .setRotation),
    (0x14#8, .getRotation),
    (0x15#8, .drawPixel),
    (0x16#8, .fbRead),
    (0x17#8, .fbWrite),
    (0x18#8, .fbFill),
    (0x19#8, .rbufWrite) ]

/-- The command table OPC, read from byte to command (30_encoding.md R100; log 16). -/
def commandTable : List (Byte × Instr) :=
  [ (0x00#8, .panelSetting),
    (0x01#8, .powerSetting),
    (0x02#8, .powerOff),
    (0x04#8, .powerOn),
    (0x06#8, .boosterSoftStart),
    (0x07#8, .deepSleep),
    (0x10#8, .dataStartTransmission1),
    (0x11#8, .dataStop),
    (0x12#8, .displayRefresh),
    (0x13#8, .dataStartTransmission2),
    (0x14#8, .partialDataStartTransmission1),
    (0x16#8, .partialDisplayRefresh),
    (0x20#8, .lutVcom),
    (0x21#8, .lutWw),
    (0x22#8, .lutBw),
    (0x23#8, .lutWb),
    (0x24#8, .lutBb),
    (0x30#8, .pllControl),
    (0x50#8, .vcomAndDataIntervalSetting),
    (0x82#8, .vcmDcSetting),
    (0xF8#8, .powerOptimization) ]

/-! ## Decoding -/

/-- Decode a request word. It is decoded from REQ0 alone (30_encoding.md R91); a reserved field that is not zero
or a reserved operation code is rejected (R93, R94). -/
def decodeRequest (w : Word) : Except DecodeError Instr :=
  if w.extractLsb' 11 5 ≠ 0#5 ∨ w.extractLsb' 24 8 ≠ 0#8 then .error .reservedField
  else
    match lookupCode requestTable (w.extractLsb' 0 8) with
    | some request => .ok (request (reqFields w))
    | none => .error .reservedOperation

/-- Decode a wire command byte (30_encoding.md R100). -/
def decodeCommand (b : Byte) : Except DecodeError Instr :=
  match lookupCode commandTable b with
  | some command => .ok command
  | none => .error .notACommand

/-- The decoder of both encoding spaces, total and rejecting by name. -/
def decode : Code → Except DecodeError Instr
  | .request w => decodeRequest w
  | .command b => decodeCommand b

/-! ## Encoding -/

/-- The code byte of an instruction: REQ0.OP of a request (30_encoding.md R92), OPC of a wire command (R100). -/
def opcode : Instr → Byte
  | .init _ => 0x01#8
  | .wake _ => 0x02#8
  | .sleep _ => 0x03#8
  | .updateFull _ => 0x04#8
  | .updatePartial _ => 0x05#8
  | .display _ => 0x06#8
  | .updateAndDisplay _ => 0x07#8
  | .loadLuts _ => 0x08#8
  | .clearFrame _ => 0x09#8
  | .setBg _ => 0x10#8
  | .getBg _ => 0x11#8
  | .getSize _ => 0x12#8
  | .setRotation _ => 0x13#8
  | .getRotation _ => 0x14#8
  | .drawPixel _ => 0x15#8
  | .fbRead _ => 0x16#8
  | .fbWrite _ => 0x17#8
  | .fbFill _ => 0x18#8
  | .rbufWrite _ => 0x19#8
  | .panelSetting => 0x00#8
  | .powerSetting => 0x01#8
  | .powerOff => 0x02#8
  | .powerOn => 0x04#8
  | .boosterSoftStart => 0x06#8
  | .deepSleep => 0x07#8
  | .dataStartTransmission1 => 0x10#8
  | .dataStop => 0x11#8
  | .displayRefresh => 0x12#8
  | .dataStartTransmission2 => 0x13#8
  | .partialDataStartTransmission1 => 0x14#8
  | .partialDisplayRefresh => 0x16#8
  | .lutVcom => 0x20#8
  | .lutWw => 0x21#8
  | .lutBw => 0x22#8
  | .lutWb => 0x23#8
  | .lutBb => 0x24#8
  | .pllControl => 0x30#8
  | .vcomAndDataIntervalSetting => 0x50#8
  | .vcmDcSetting => 0x82#8
  | .powerOptimization => 0xF8#8

/-- The operand fields of a host request; none for a wire command, which has no fields. -/
def Instr.fields : Instr → Option ReqFields
  | .init f => some f
  | .wake f => some f
  | .sleep f => some f
  | .updateFull f => some f
  | .updatePartial f => some f
  | .display f => some f
  | .updateAndDisplay f => some f
  | .loadLuts f => some f
  | .clearFrame f => some f
  | .setBg f => some f
  | .getBg f => some f
  | .getSize f => some f
  | .setRotation f => some f
  | .getRotation f => some f
  | .drawPixel f => some f
  | .fbRead f => some f
  | .fbWrite f => some f
  | .fbFill f => some f
  | .rbufWrite f => some f
  | .panelSetting => none
  | .powerSetting => none
  | .powerOff => none
  | .powerOn => none
  | .boosterSoftStart => none
  | .deepSleep => none
  | .dataStartTransmission1 => none
  | .dataStop => none
  | .displayRefresh => none
  | .dataStartTransmission2 => none
  | .partialDataStartTransmission1 => none
  | .partialDisplayRefresh => none
  | .lutVcom => none
  | .lutWw => none
  | .lutBw => none
  | .lutWb => none
  | .lutBb => none
  | .pllControl => none
  | .vcomAndDataIntervalSetting => none
  | .vcmDcSetting => none
  | .powerOptimization => none

/-- A field of `n` bits placed at bit `lo` of a word, every other bit zero. -/
def placeField {n : Nat} (v : BitVec n) (lo : Nat) : Word := v.setWidth 32 <<< lo

/-- The request word of an operation code and its fields, reserved fields zero (30_encoding.md R91). -/
def requestWord (op : Byte) (f : ReqFields) : Word :=
  placeField op 0 ||| placeField f.color.bit 8 ||| placeField f.rotf.bits 9 ||| placeField f.lutsel 16

/-- The encoding of an instruction. -/
def encode (i : Instr) : Code :=
  match i.fields with
  | some f => .request (requestWord (opcode i) f)
  | none => .command (opcode i)

/-- The host's view of the decoder: the instruction read from `w` of a row of `nbits` bits. A row of 8 bits is a
wire command byte, a wider one a request word. -/
def decodeTableWord (nbits w : Nat) : Option Instr :=
  let bits := w % 2 ^ nbits
  (decode (if nbits ≤ 8 then .command (BitVec.ofNat 8 bits) else .request (BitVec.ofNat 32 bits))).toOption

end Sys2Proof
end

