-- ==== Sys2Proof/Config.lean ====
section
/-! DEFINITION. The OPEN parameters of the block (00_scope.md R12) and the values the spec leaves free
(93_implementation_defined.md U3, U4, U16). Every one is an opaque constant: nothing in Lean can evaluate it, so
a theorem holds whatever its value is. -/

namespace Sys2Proof.Config

/-- RESET_DELAY_MS, the settle delay of a panel reset (00_scope.md R11). OPEN (log 3). -/
opaque resetDelayMs : Nat

/-- P_BOOSTER, three bytes (00_scope.md R12). OPEN (log 3). -/
opaque pBooster : Fin 3 → Byte

/-- The address bytes of the seven pairs of P_POWEROPT (00_scope.md R12). OPEN (log 3). -/
opaque pPoweroptAddr : Fin 7 → Byte

/-- The value bytes of the seven pairs of P_POWEROPT (00_scope.md R12). OPEN (log 3). -/
opaque pPoweroptVal : Fin 7 → Byte

/-- P_PANEL (00_scope.md R12). OPEN (log 3). -/
opaque pPanel : Byte

/-- P_PLL (00_scope.md R12). OPEN (log 3). -/
opaque pPll : Byte

/-- P_VCMDC (00_scope.md R12). OPEN (log 3). -/
opaque pVcmdc : Byte

/-- P_CDI (00_scope.md R12). OPEN (log 3). -/
opaque pCdi : Byte

/-- LUT_VCOM, of length N_VCOM (10_state.md R37). OPEN (log 3). -/
opaque lutVcom : List Byte

/-- LUT_WW, of length N_WW (10_state.md R37). OPEN (log 3). -/
opaque lutWw : List Byte

/-- LUT_BW, of length N_BW (10_state.md R37). OPEN (log 3). -/
opaque lutBw : List Byte

/-- LUT_WB, of length N_WB (10_state.md R37). OPEN (log 3). -/
opaque lutWb : List Byte

/-- LUT_BB, of length N_BB (10_state.md R37). OPEN (log 3). -/
opaque lutBb : List Byte

/-- Whether the environment delivers a transmission: a FREE value for each draw (41_sequencer.md R162, R163, U3;
log 2). -/
opaque txOk : Nat → Bool

/-- The level of the busy line at a sample: a FREE value for each draw (41_sequencer.md R165, U4; log 2). -/
opaque busyLine : Nat → BitVec 1

/-- The byte RBUF holds at an index after the given hardware reset: a FREE value (10_state.md R43, U16; log 4). -/
opaque rbufDraw : Nat → Nat → Byte

end Sys2Proof.Config
end

