-- ==== Sys2Proof/Machine/State.lean ====
section
/-! DEFINITION. The state of the panel controller (10_state.md), its reset value, and the reasons a step stops. -/

namespace Sys2Proof.Machine

/-- The lifecycle state held in MODE (10_state.md R29). -/
inductive Mode where
  | uninitialized
  | active
  | sleeping
  | indeterminate
deriving DecidableEq, Repr

/-- The codes STATUS.LAST_ERR can hold (60_exceptions.md R250). -/
inductive ErrCode where
  | none
  | transportError
  | illegalRequest
  | modeFault
  | bufferIndexFault
deriving DecidableEq, Repr

/-- The kind of a transmitted byte: the state of the data/command line (00_scope.md R15). -/
inductive TxKind where
  | cmd
  | data
deriving DecidableEq, Repr

/-- Why an error is raised (60_exceptions.md R250). -/
inductive Cause where
  /-- The transmission of byte `b` of kind `k` failed (R251). -/
  | transport (k : TxKind) (b : Byte)
  /-- Reserved operation code or reserved field not zero (R253). -/
  | illegalRequest
  /-- A wire request in a MODE that does not accept it (R254). -/
  | modeFault
  /-- An index or length out of range (R255). -/
  | bufferIndexFault
  /-- A REQ0 write while STATUS.BUSY = 1 (R256). -/
  | requestWhileBusy
deriving DecidableEq, Repr

/-- The sequencer's micro-ops (41_sequencer.md R160). -/
inductive MicroOp where
  /-- CMD(b). -/
  | cmd (b : Byte)
  /-- DATA(b). -/
  | data (b : Byte)
  /-- WAIT. -/
  | wait
  /-- RESET(n, d): n pulses with d ms settle time. -/
  | reset (n d : Nat)
  /-- DONE(m): the end of the request, with the mode it enters if any. -/
  | finish (m : Option Mode)
deriving DecidableEq, Repr

/-- The wire events (00_scope.md R15). -/
inductive WireEvent where
  | cmd (b : Byte)
  | data (b : Byte)
  | reset (n d : Nat)
  | wait
  | txFail (k : TxKind) (b : Byte)
deriving DecidableEq, Repr

/-- One answer of the environment (41_sequencer.md R177). A step reads the part it draws: CMD and DATA the
transmission outcome, WAIT the line level (log 2). -/
structure EnvAnswer where
  /-- The transmission succeeds. -/
  txOk : Bool
  /-- The level of the busy line. -/
  line : BitVec 1
deriving DecidableEq, Repr

/-- What the host does next (10_state.md R23; log 1, log 12). -/
inductive HostAction where
  /-- Write a host register at a byte offset. -/
  | write (off : BitVec 5) (v : Word)
  /-- Read a host register at a byte offset. -/
  | read (off : BitVec 5)
  /-- Assert the hardware reset of the block. -/
  | hardwareReset
  /-- Do nothing for one step: the sequencer moves. -/
  | pass
  /-- Poll STATUS until STATUS.BUSY = 0 (30_encoding.md R103). -/
  | waitDone
deriving DecidableEq, Repr

/-- The operands latched at acceptance, with the widths of 10_state.md R32; where 30_encoding.md R96 extends a field to
32 bits, the latch holds its 16 (log 6). -/
structure Latch where
  /-- L_OP. -/
  op : Byte
  /-- L_COLOR. -/
  color : Colour
  /-- L_ROT. -/
  rot : Rotation
  /-- L_X. -/
  x : Half
  /-- L_Y. -/
  y : Half
  /-- L_W. -/
  w : Half
  /-- L_H. -/
  h : Half
  /-- L_LEN. -/
  len : Half
  /-- L_IDX. -/
  idx : Half
  /-- L_VAL. -/
  val : Byte
deriving DecidableEq, Repr

/-- Memory as the listed (index, byte) pairs; what an unlisted index reads as is fixed per memory in Ops.lean. -/
abbrev Memory := List Host.Cell

/-- The state of the block, then the model's own fields: the host's coming actions, the value the host last read,
the environment's coming answers and the counters the free values are drawn by. -/
structure State where
  /-- REQ0 (10_state.md R25). -/
  req0 : Word
  /-- ARG0 (10_state.md R26). -/
  arg0 : Word
  /-- ARG1 (10_state.md R26). -/
  arg1 : Word
  /-- ARG2 (10_state.md R26). -/
  arg2 : Word
  /-- RESULT (10_state.md R27). -/
  result : Word
  /-- STATUS.BUSY (10_state.md R28). -/
  busy : Bool
  /-- STATUS.WAITING (10_state.md R28). -/
  waiting : Bool
  /-- MODE, copied in STATUS.MODE (10_state.md R28, R29). -/
  mode : Mode
  /-- STATUS.LAST_ERR (10_state.md R28). -/
  lastErr : ErrCode
  /-- STATUS.STICKY_TX (10_state.md R28). -/
  stickyTx : Bool
  /-- STATUS.STICKY_FAULT (10_state.md R28). -/
  stickyFault : Bool
  /-- STATUS.OVERRUN (10_state.md R28). -/
  overrun : Bool
  /-- BG, the background colour (10_state.md R30). -/
  bg : Colour
  /-- ROT, the orientation (10_state.md R31). -/
  rot : Rotation
  /-- The latched operands L_OP to L_VAL (10_state.md R32). -/
  lat : Latch
  /-- SEQ, the micro-ops of the request in flight that have not completed (10_state.md R33). -/
  seq : List MicroOp
  /-- upc, the index of the next micro-op (10_state.md R33). -/
  upc : Nat
  /-- TRACE, oldest event first (10_state.md R34). -/
  trace : List WireEvent
  /-- FB, the framebuffer (10_state.md R35). -/
  fb : Memory
  /-- RBUF, the region buffer (10_state.md R36). -/
  rbuf : Memory
  /-- The model's own: what the host does next (log 1). -/
  todo : List HostAction
  /-- The model's own: the value the host's last read returned (log 13). -/
  hostData : Word
  /-- The model's own: the environment's answers that are already fixed (log 2). -/
  env : List EnvAnswer
  /-- The model's own: how many answers the environment has given (log 2). -/
  draws : Nat
  /-- The model's own: how many hardware resets came after the first (log 4). -/
  resets : Nat
deriving DecidableEq, Repr

/-- Why the machine stops with a fault. Every request guards against both, so that no request reaches them
(20_memory.md R67, R78; log 15). -/
inductive Fault where
  /-- Raised by the framebuffer access operations at an index that does not exist. Safe: the machine stops. -/
  | outsideFramebuffer (i : Nat)
  /-- Raised by the region buffer access operation at an index that does not exist. Safe: the machine stops. -/
  | outsideRegionBuffer (i : Nat)
deriving DecidableEq, Repr

/-- Why the machine refuses to give a step a meaning. -/
inductive Refusal where
  /-- Raised by exec for an instruction without a meaning. Safe: no claim can rest on it. No arm of exec does. -/
  | notModelled (mnemonic : String)
  /-- Raised by the sequencer at a CMD micro-op whose byte is no OPC value; no micro-sequence holds one
  (30_encoding.md R101, 93_implementation_defined.md U19; log 9). Safe: the machine stops. -/
  | notInCommandTable (b : Byte)
deriving DecidableEq, Repr

/-- The latched operands at reset. The spec leaves them unspecified and unobservable (10_state.md R43).
DESIGN CHOICE, unsafe: zero (log 5). -/
def Latch.reset : Latch where
  op := 0#8
  color := .black
  rot := .deg0
  x := 0#16
  y := 0#16
  w := 0#16
  h := 0#16
  len := 0#16
  idx := 0#16
  val := 0#8

/-- The state after hardware reset (10_state.md R43). FB lists nothing, so that every byte reads 0xFF; RBUF lists
nothing, so that every byte is free. -/
def State.reset : State where
  req0 := 0#32
  arg0 := 0#32
  arg1 := 0#32
  arg2 := 0#32
  result := 0#32
  busy := false
  waiting := false
  mode := .uninitialized
  lastErr := .none
  stickyTx := false
  stickyFault := false
  overrun := false
  bg := .white
  rot := .deg0
  lat := Latch.reset
  seq := []
  upc := 0
  trace := []
  fb := []
  rbuf := []
  todo := []
  hostData := 0#32
  env := []
  draws := 0
  resets := 0

end Sys2Proof.Machine
end

