-- ==== Sys2Proof/Machine/Params.lean ====
section
/-! DEFINITION. The parameters whose value the spec gives or decides (00_scope.md R9 to R12). -/

namespace Sys2Proof.Machine

/-- WIDTH (00_scope.md R9). -/
def WIDTH : Nat := 264

/-- HEIGHT (00_scope.md R9). -/
def HEIGHT : Nat := 176

/-- ROW_BYTES = WIDTH/8 (00_scope.md R9). -/
def ROW_BYTES : Nat := 33

/-- FB_BYTES (00_scope.md R9). -/
def FB_BYTES : Nat := 5808

/-- RBUF_SIZE (00_scope.md R12). -/
def RBUF_SIZE : Nat := 5808

/-- BUSY_ACTIVE_LEVEL: the busy line is active-low (00_scope.md R10). -/
def BUSY_ACTIVE_LEVEL : BitVec 1 := 0#1

/-- RESET_PULSES (00_scope.md R11). -/
def RESET_PULSES : Nat := 2

/-- DC_CMD_LEVEL (00_scope.md R12). -/
def DC_CMD_LEVEL : BitVec 1 := 0#1

/-- P_POWER_SETTING (00_scope.md R12). -/
def P_POWER_SETTING : List Byte := [0x03#8, 0x00#8, 0x2B#8, 0x2B#8, 0x09#8]

/-- P_DEEP_SLEEP_CHECK (00_scope.md R12). -/
def P_DEEP_SLEEP_CHECK : Byte := 0xA5#8

/-- P_PDRF (00_scope.md R12). -/
def P_PDRF : Byte := 0x00#8

/-- What a framebuffer byte that is not listed reads as: its reset contents (10_state.md R43). -/
def FB_BLANK : Byte := 0xFF#8

end Sys2Proof.Machine
end

