-- ==== Sys2Proof/Machine/Ops.lean ====
section
/-! DEFINITION. The named operations over memory, the environment, the trace and the sequencer state, and the ones
that record an error and clear it (20_memory.md, 41_sequencer.md, 60_exceptions.md). -/

namespace Sys2Proof.Machine

/-! ## Memory in canonical form -/

/-- The byte listed at an index. -/
def Memory.find (i : Nat) : Memory → Option Byte
  | [] => none
  | (a, v) :: m => if a = i then some v else Memory.find i m

/-- List byte `v` at index `i`, keeping the indices rising. -/
def Memory.insert (i : Nat) (v : Byte) : Memory → Memory
  | [] => [(i, v)]
  | (a, b) :: m =>
    if i < a then (i, v) :: (a, b) :: m
    else if i = a then (i, v) :: m
    else (a, b) :: Memory.insert i v m

/-- Take index `i` off the list. -/
def Memory.erase (i : Nat) (m : Memory) : Memory := m.filter fun c => c.1 ≠ i

/-- Write byte `v` at index `i`. `blank` is the byte an unlisted index reads as, none where that is a free value;
writing the blank byte takes the index off the list. -/
def Memory.write (blank : Option Byte) (i : Nat) (v : Byte) (m : Memory) : Memory :=
  if blank = some v then Memory.erase i m else Memory.insert i v m

/-- The memory of `n` bytes that all hold `v`. -/
def Memory.fill (blank : Option Byte) (n : Nat) (v : Byte) : Memory :=
  if blank = some v then [] else (List.range n).map fun i => (i, v)

/-- The canonical form: indices from `lo` on, strictly rising and below `n`, no byte equal to the blank one. -/
def Memory.wfFrom (blank : Option Byte) (n : Nat) : Nat → Memory → Bool
  | _, [] => true
  | lo, (a, v) :: m =>
    decide (lo ≤ a) && decide (a < n) && decide (blank ≠ some v) && Memory.wfFrom blank n (a + 1) m

/-- The canonical form of a memory of `n` bytes. -/
def Memory.wf (blank : Option Byte) (n : Nat) (m : Memory) : Bool := Memory.wfFrom blank n 0 m

/-- FB[i] (10_state.md R35). An unlisted byte reads 0xFF, its reset contents (R43). -/
def fbByte (s : State) (i : Nat) : Byte := (Memory.find i s.fb).getD FB_BLANK

/-- RBUF[i] (10_state.md R36). An unlisted byte reads the byte drawn for it at the last hardware reset, a free
value (R43; log 4). -/
def rbufByte (s : State) (i : Nat) : Byte := (Memory.find i s.rbuf).getD (Config.rbufDraw s.resets i)

/-- FB[0] to FB[5807] in ascending order (20_memory.md R63). -/
def fbBytes (s : State) : List Byte := (List.range FB_BYTES).map (fbByte s)

/-- RBUF[0] to RBUF[n-1] in ascending order (43_frame_transfer.md R227). -/
def rbufBytes (s : State) (n : Nat) : List Byte := (List.range n).map (rbufByte s)

/-- FB[i] <- v, a fault at an index that does not exist. -/
def storeFb (i : Nat) (v : Byte) (s : State) : Host.Outcome State Fault Refusal :=
  if i < FB_BYTES then .next { s with fb := Memory.write (some FB_BLANK) i v s.fb }
  else .fault (.outsideFramebuffer i)

/-- FB[i] handed to `k`, a fault at an index that does not exist. -/
def loadFb (i : Nat) (k : Byte → State → Host.Outcome State Fault Refusal) (s : State) :
    Host.Outcome State Fault Refusal :=
  if i < FB_BYTES then k (fbByte s i) s else .fault (.outsideFramebuffer i)

/-- RBUF[i] <- v, a fault at an index that does not exist. -/
def storeRbuf (i : Nat) (v : Byte) (s : State) : Host.Outcome State Fault Refusal :=
  if i < RBUF_SIZE then .next { s with rbuf := Memory.write none i v s.rbuf }
  else .fault (.outsideRegionBuffer i)

/-! ## The environment -/

/-- The environment's next answer: the first that is fixed, else a free one (41_sequencer.md R177; log 2). -/
def nextAnswer (s : State) : EnvAnswer :=
  match s.env with
  | a :: _ => a
  | [] => { txOk := Config.txOk s.draws, line := Config.busyLine s.draws }

/-- The answer is taken. -/
def takeAnswer (s : State) : State := { s with env := s.env.tail, draws := s.draws + 1 }

/-! ## Trace and sequencer state -/

/-- Emit(e) (00_scope.md R14, 10_state.md R34). -/
def emit (e : WireEvent) (s : State) : State := { s with trace := s.trace ++ [e] }

/-- The head micro-op is removed from SEQ, leaving `rest`, and upc advances (41_sequencer.md R177). -/
def advance (rest : List MicroOp) (s : State) : State := { s with seq := rest, upc := s.upc + 1 }

/-- SEQ <- ops, upc <- 0, STATUS.BUSY <- 1 (41_sequencer.md R161). -/
def startSeq (ops : List MicroOp) (s : State) : State := { s with seq := ops, upc := 0, busy := true }

/-- SEQ <- [], upc <- 0, STATUS.BUSY <- 0, STATUS.WAITING <- 0 (41_sequencer.md R168, R169). -/
def endSeq (s : State) : State := { s with seq := [], upc := 0, busy := false, waiting := false }

/-! ## Errors -/

/-- Taking an error: what it records (60_exceptions.md R250, R259). A TransportError also ends the request
(41_sequencer.md R169). No vector and no saved register exist. -/
def raise (c : Cause) (s : State) : State :=
  match c with
  | .transport k b =>
    endSeq { emit (.txFail k b) s with lastErr := .transportError, stickyTx := true, mode := .indeterminate }
  | .illegalRequest => { s with lastErr := .illegalRequest, stickyFault := true }
  | .modeFault => { s with lastErr := .modeFault, stickyFault := true }
  | .bufferIndexFault => { s with lastErr := .bufferIndexFault, stickyFault := true }
  | .requestWhileBusy => { s with overrun := true, stickyFault := true }

/-- LAST_ERR <- 0, at the acceptance of a request (60_exceptions.md R258). There is no return from an error: this
is the only way its code is cleared short of hardware reset (R261). -/
def clearError (s : State) : State := { s with lastErr := .none }

/-! ## Transmission -/

/-- The event of a delivered byte (00_scope.md R15). -/
def sentEvent : TxKind → Byte → WireEvent
  | .cmd, b => .cmd b
  | .data, b => .data b

/-- Send byte `b` in state `k` of the data/command line: the environment draws the outcome; a delivered byte is an
event, a failed one a TransportError (41_sequencer.md R162, R163). -/
def transmit (k : TxKind) (b : Byte) (s : State) : State :=
  if (nextAnswer s).txOk then emit (sentEvent k b) (takeAnswer s)
  else raise (.transport k b) (takeAnswer s)

/-! ## Acceptance -/

/-- The checks of a decoded request and, if it passes them, its acceptance: the error code is cleared, the operands
are latched and `run` starts or applies it (60_exceptions.md R257, R258). `accepts` is the request's row of
42_lifecycle.md R190, `outOfRange` its index check (R255). -/
def takeRequest (accepts : Mode → Bool) (outOfRange : State → Bool) (latch : State → State)
    (run : State → Host.Outcome State Fault Refusal) (s : State) : Host.Outcome State Fault Refusal :=
  if s.busy then .next (raise .requestWhileBusy s)
  else if !accepts s.mode then .next (raise .modeFault s)
  else if outOfRange s then .next (raise .bufferIndexFault s)
  else run (latch (clearError s))

/-- Every MODE accepts the request (40_framebuffer.md R130). -/
def anyMode (_ : Mode) : Bool := true

/-- The request has no index to check. -/
def noIndex (_ : State) : Bool := false

end Sys2Proof.Machine
end

