-- ==== Sys2Proof/Machine/Flags.lean ====
section
/-! DEFINITION. The STATUS word computed from its fields (10_state.md R28), the values GET requests return, and the
host's view of the registers (20_memory.md R60). -/

namespace Sys2Proof.Machine

/-- MODE as two bits (10_state.md R29). -/
def modeBits : Mode → BitVec 2
  | .uninitialized => 0#2
  | .active => 1#2
  | .sleeping => 2#2
  | .indeterminate => 3#2

/-- LAST_ERR as four bits (60_exceptions.md R250). -/
def errBits : ErrCode → BitVec 4
  | .none => 0#4
  | .transportError => 1#4
  | .illegalRequest => 2#4
  | .modeFault => 3#4
  | .bufferIndexFault => 4#4

/-- STATUS (10_state.md R28), reserved bits zero. -/
def statusWord (s : State) : Word :=
  placeField (BitVec.ofBool s.busy) 0 ||| placeField (BitVec.ofBool s.waiting) 1 ||| placeField (modeBits s.mode) 2 |||
    placeField (errBits s.lastErr) 4 ||| placeField (BitVec.ofBool s.stickyTx) 8 |||
    placeField (BitVec.ofBool s.stickyFault) 9 ||| placeField (BitVec.ofBool s.overrun) 10

/-- WIDTH in bits 15:0, HEIGHT in bits 31:16 (40_framebuffer.md R144). -/
def sizeWord : Word := placeField (BitVec.ofNat 16 WIDTH) 0 ||| placeField (BitVec.ofNat 16 HEIGHT) 16

/-- A host read of the register at a byte offset; an unlisted offset reads 0 (20_memory.md R60). -/
def readReg (off : BitVec 5) (s : State) : Word :=
  match off with
  | 0x00#5 => s.req0
  | 0x04#5 => s.arg0
  | 0x08#5 => s.arg1
  | 0x0C#5 => s.arg2
  | 0x10#5 => s.result
  | 0x14#5 => statusWord s
  | _ => 0#32

/-- A host write of the register at a byte offset, but for the request a REQ0 write issues. RESULT, STATUS and
unlisted offsets ignore writes (10_state.md R24, 20_memory.md R60). -/
def writeReg (off : BitVec 5) (v : Word) (s : State) : State :=
  match off with
  | 0x00#5 => { s with req0 := v }
  | 0x04#5 => { s with arg0 := v }
  | 0x08#5 => { s with arg1 := v }
  | 0x0C#5 => { s with arg2 := v }
  | _ => s

end Sys2Proof.Machine
end

