-- ==== Sys2Proof/Machine/Operands.lean ====
section
/-! DEFINITION. The operand forms: ARG fields and their latching (30_encoding.md R95, R96), index checks, the
partial-window address bytes (R97), colours, and the coordinate translation of the framebuffer (20_memory.md). -/

namespace Sys2Proof.Machine

/-- ARG[15:0] (30_encoding.md R95). -/
def lowHalf (w : Word) : Half := w.extractLsb' 0 16

/-- ARG[31:16] (30_encoding.md R95). -/
def highHalf (w : Word) : Half := w.extractLsb' 16 16

/-- ARG[7:0] (30_encoding.md R95). -/
def lowByte (w : Word) : Byte := w.extractLsb' 0 8

/-! ## Latching -/

/-- What every accepted request latches: L_OP, L_COLOR, L_ROT (30_encoding.md R96). -/
def latchRequest (op : Byte) (f : ReqFields) (s : State) : State :=
  { s with lat := { s.lat with op := op, color := f.color, rot := f.rotf } }

/-- UPDATE_PARTIAL latches L_X, L_Y, L_W, L_H and L_LEN too (30_encoding.md R96). Each latch holds the 16-bit field; its
value as a number is the zero-extended one (log 6). -/
def latchRegion (op : Byte) (f : ReqFields) (s : State) : State :=
  { s with lat := { s.lat with
      op := op, color := f.color, rot := f.rotf,
      x := lowHalf s.arg0, y := highHalf s.arg0, w := lowHalf s.arg1, h := highHalf s.arg1, len := lowHalf s.arg2 } }

/-- DRAW_PIXEL latches L_X and L_Y too (30_encoding.md R96). The latch holds the 16-bit field; its sign counts where
it is read (log 6). -/
def latchPoint (op : Byte) (f : ReqFields) (s : State) : State :=
  { s with lat := { s.lat with
      op := op, color := f.color, rot := f.rotf, x := lowHalf s.arg0, y := highHalf s.arg0 } }

/-- FB_READ, FB_WRITE and RBUF_WRITE latch L_IDX and L_VAL too (30_encoding.md R96). R96 writes L_IDX zero-extended to
32 bits, 10_state.md R32 gives it 16: DEDUCED, safe: the latch holds the 16-bit field, and its value as a number is the
zero-extended one (log 6). -/
def latchIndex (op : Byte) (f : ReqFields) (s : State) : State :=
  { s with lat := { s.lat with
      op := op, color := f.color, rot := f.rotf, idx := lowHalf s.arg0, val := lowByte s.arg1 } }

/-! ## Index checks at acceptance -/

/-- IDX is no index of FB (60_exceptions.md R255). -/
def fbIndexOut (s : State) : Bool := decide (FB_BYTES ≤ (lowHalf s.arg0).toNat)

/-- IDX is no index of RBUF (60_exceptions.md R255). -/
def rbufIndexOut (s : State) : Bool := decide (RBUF_SIZE ≤ (lowHalf s.arg0).toNat)

/-- LEN is over RBUF_SIZE (60_exceptions.md R255). -/
def lengthOut (s : State) : Bool := decide (RBUF_SIZE < (lowHalf s.arg2).toNat)

/-! ## Wire operands -/

/-- A 16-bit value as two bytes, high byte first (20_memory.md R64). -/
def splitBytes (v : Half) : List Byte := [v.extractLsb' 8 8, v.extractLsb' 0 8]

/-- A 16-bit column value as two bytes, the low three bits discarded (20_memory.md R68). -/
def splitColumn (v : Half) : List Byte := [v.extractLsb' 8 8, v.extractLsb' 0 8 &&& 0xF8#8]

/-- The eight address bytes of a partial window (30_encoding.md R97). -/
def addrBytes (x y w h : Half) : List Byte :=
  splitColumn x ++ splitBytes y ++ splitColumn w ++ splitBytes h

/-- The inversion packer (41_sequencer.md R171). -/
def inv (bs : List Byte) : List Byte := bs.map fun b => ~~~b

/-- FILL(c) (40_framebuffer.md R131). -/
def fillByte : Colour → Byte
  | .white => 0xFF#8
  | .black => 0x00#8

/-! ## Coordinates -/

/-- The logical width and height under an orientation (20_memory.md R75). -/
def logicalSize : Rotation → Nat × Nat
  | .deg0 => (WIDTH, HEIGHT)
  | .deg90 => (HEIGHT, WIDTH)
  | .deg180 => (WIDTH, HEIGHT)
  | .deg270 => (HEIGHT, WIDTH)

/-- The logical coordinate is inside the logical area (20_memory.md R75, 40_framebuffer.md R135). -/
def inArea (r : Rotation) (x y : Int) : Bool :=
  decide (0 ≤ x) && decide (0 ≤ y) && decide (x < (logicalSize r).1) && decide (y < (logicalSize r).2)

/-- The physical coordinate of a logical one inside the logical area (20_memory.md R76; log 16). -/
def xlate (r : Rotation) (x y : Nat) : Nat × Nat :=
  match r with
  | .deg0 => (x, y)
  | .deg90 => (WIDTH - 1 - y, x)
  | .deg180 => (WIDTH - 1 - x, HEIGHT - 1 - y)
  | .deg270 => (y, HEIGHT - 1 - x)

/-- The index of the byte that holds a physical pixel (20_memory.md R62, R77). -/
def pixelIndex (p : Nat × Nat) : Nat := p.2 * ROW_BYTES + p.1 / 8

/-- The bit that holds a physical pixel (20_memory.md R61, R77). -/
def pixelBit (p : Nat × Nat) : Nat := 7 - p.1 % 8

/-- A byte with bit `k` holding colour `c` (40_framebuffer.md R135). -/
def setPixelBit (b : Byte) (k : Nat) (c : Colour) : Byte :=
  (b &&& ~~~(1#8 <<< k)) ||| (c.bit.setWidth 8 <<< k)

end Sys2Proof.Machine
end

