-- ==== Sys2Proof/Machine/Framebuffer.lean ====
section
/-! DEFINITION. The local requests (40_framebuffer.md): they complete in the step that accepts them, in every MODE,
and touch no wire (R130, R132). Each reads its latched operands. -/

namespace Sys2Proof.Machine

/-- RESULT <- v (10_state.md R27). -/
def setResult (v : Word) (s : State) : Host.Outcome State Fault Refusal := .next { s with result := v }

/-- The pixel write of the latched operands (40_framebuffer.md R135). -/
def drawPixel (s : State) : Host.Outcome State Fault Refusal :=
  let x := s.lat.x.toInt
  let y := s.lat.y.toInt
  if inArea s.rot x y then
    let p := xlate s.rot x.toNat y.toNat
    loadFb (pixelIndex p) (fun b => storeFb (pixelIndex p) (setPixelBit b (pixelBit p) s.lat.color)) s
  else .next s

/-- SET_BG (40_framebuffer.md R142). -/
def execSetBg (f : ReqFields) (s : State) : Host.Outcome State Fault Refusal :=
  takeRequest anyMode noIndex (latchRequest (opcode (.setBg f)) f) (fun t => .next { t with bg := t.lat.color }) s

/-- GET_BG (40_framebuffer.md R143). -/
def execGetBg (f : ReqFields) (s : State) : Host.Outcome State Fault Refusal :=
  takeRequest anyMode noIndex (latchRequest (opcode (.getBg f)) f) (fun t => setResult (t.bg.bit.setWidth 32) t) s

/-- GET_SIZE (40_framebuffer.md R144). -/
def execGetSize (f : ReqFields) (s : State) : Host.Outcome State Fault Refusal :=
  takeRequest anyMode noIndex (latchRequest (opcode (.getSize f)) f) (setResult sizeWord) s

/-- SET_ROTATION (40_framebuffer.md R137). -/
def execSetRotation (f : ReqFields) (s : State) : Host.Outcome State Fault Refusal :=
  takeRequest anyMode noIndex (latchRequest (opcode (.setRotation f)) f) (fun t => .next { t with rot := t.lat.rot }) s

/-- GET_ROTATION (40_framebuffer.md R138). -/
def execGetRotation (f : ReqFields) (s : State) : Host.Outcome State Fault Refusal :=
  takeRequest anyMode noIndex (latchRequest (opcode (.getRotation f)) f) (fun t => setResult (t.rot.bits.setWidth 32) t) s

/-- DRAW_PIXEL (40_framebuffer.md R134 to R136). -/
def execDrawPixel (f : ReqFields) (s : State) : Host.Outcome State Fault Refusal :=
  takeRequest anyMode noIndex (latchPoint (opcode (.drawPixel f)) f) drawPixel s

/-- FB_READ (40_framebuffer.md R139). -/
def execFbRead (f : ReqFields) (s : State) : Host.Outcome State Fault Refusal :=
  takeRequest anyMode fbIndexOut (latchIndex (opcode (.fbRead f)) f) (fun t =>
    loadFb t.lat.idx.toNat (fun b => setResult (b.setWidth 32)) t) s

/-- FB_WRITE (40_framebuffer.md R140). -/
def execFbWrite (f : ReqFields) (s : State) : Host.Outcome State Fault Refusal :=
  takeRequest anyMode fbIndexOut (latchIndex (opcode (.fbWrite f)) f) (fun t => storeFb t.lat.idx.toNat t.lat.val t) s

/-- FB_FILL (40_framebuffer.md R141). -/
def execFbFill (f : ReqFields) (s : State) : Host.Outcome State Fault Refusal :=
  takeRequest anyMode noIndex (latchRequest (opcode (.fbFill f)) f) (fun t =>
    .next { t with fb := Memory.fill (some FB_BLANK) FB_BYTES (fillByte t.lat.color) }) s

/-- RBUF_WRITE (40_framebuffer.md R145). -/
def execRbufWrite (f : ReqFields) (s : State) : Host.Outcome State Fault Refusal :=
  takeRequest anyMode rbufIndexOut (latchIndex (opcode (.rbufWrite f)) f) (fun t =>
    storeRbuf t.lat.idx.toNat t.lat.val t) s

end Sys2Proof.Machine
end

