-- ==== Sys2Proof/Machine/Sequences.lean ====
section
/-! DEFINITION. The micro-sequence helpers (41_sequencer.md R170) and the micro-sequences of 42_lifecycle.md and
43_frame_transfer.md. A command is named by its instruction, so that its byte comes from the command table alone. -/

namespace Sys2Proof.Machine

/-- cmd(c) (41_sequencer.md R170). -/
def cmd (c : Instr) : List MicroOp := [.cmd (opcode c)]

/-- data(bs) (41_sequencer.md R170). -/
def data (bs : List Byte) : List MicroOp := bs.map .data

/-- cmd_with_data(c, bs), with no wait between (41_sequencer.md R170). -/
def cmdWithData (c : Instr) (bs : List Byte) : List MicroOp := cmd c ++ data bs

/-- One power-optimisation write: its own command with an address byte and a value byte (42_lifecycle.md R191). -/
def powerOptWrite (k : Fin 7) : List MicroOp :=
  cmdWithData .powerOptimization [Config.pPoweroptAddr k, Config.pPoweroptVal k]

/-- lut_seq (42_lifecycle.md R196). -/
def lutSeq : List MicroOp :=
  [.wait] ++
  cmdWithData .lutVcom Config.lutVcom ++
  cmdWithData .lutWw Config.lutWw ++
  cmdWithData .lutBw Config.lutBw ++
  cmdWithData .lutWb Config.lutWb ++
  cmdWithData .lutBb Config.lutBb

/-- init_seq (42_lifecycle.md R191). -/
def initSeq : List MicroOp :=
  [.reset RESET_PULSES Config.resetDelayMs] ++
  cmdWithData .powerSetting P_POWER_SETTING ++
  cmdWithData .boosterSoftStart [Config.pBooster 0, Config.pBooster 1, Config.pBooster 2] ++
  powerOptWrite 0 ++ powerOptWrite 1 ++ powerOptWrite 2 ++ powerOptWrite 3 ++
  powerOptWrite 4 ++ powerOptWrite 5 ++ powerOptWrite 6 ++
  cmdWithData .partialDisplayRefresh [P_PDRF] ++
  cmd .powerOn ++ [.wait] ++
  cmdWithData .panelSetting [Config.pPanel] ++
  cmdWithData .pllControl [Config.pPll] ++
  cmdWithData .vcmDcSetting [Config.pVcmdc] ++
  lutSeq

/-- sleep_seq (42_lifecycle.md R194): no wait after POWER_OFF (R198). -/
def sleepSeq : List MicroOp :=
  cmdWithData .vcomAndDataIntervalSetting [Config.pCdi] ++
  cmd .powerOff ++
  cmdWithData .deepSleep [P_DEEP_SLEEP_CHECK]

/-- full_seq(bs) (43_frame_transfer.md R221). -/
def fullSeq (bs : List Byte) : List MicroOp :=
  cmd .dataStartTransmission2 ++ data (inv bs) ++ cmd .dataStop

/-- The display refresh and its wait (43_frame_transfer.md R229). -/
def displaySeq : List MicroOp := cmd .displayRefresh ++ [.wait]

/-- The partial transfer of `bs` into the window of the latched operands (43_frame_transfer.md R225). -/
def partialSeq (l : Latch) (bs : List Byte) : List MicroOp :=
  cmd .partialDataStartTransmission1 ++ data (addrBytes l.x l.y l.w l.h) ++ [.wait] ++ data (inv bs) ++ cmd .dataStop

/-- Acceptance of a wire request starts its micro-sequence, which ends in DONE(m) (41_sequencer.md R161). -/
def startRequest (expand : State → List MicroOp) (m : Option Mode) (s : State) : Host.Outcome State Fault Refusal :=
  .next (startSeq (expand s ++ [.finish m]) s)

end Sys2Proof.Machine
end

