-- ==== Sys2Proof/Machine/Lifecycle.lean ====
section
/-! DEFINITION. The lifecycle requests and the waveform loader (42_lifecycle.md). -/

namespace Sys2Proof.Machine

/-- INIT (42_lifecycle.md R192), accepted in Uninitialized and Indeterminate. -/
def execInit (f : ReqFields) (s : State) : Host.Outcome State Fault Refusal :=
  takeRequest (fun m => m == .uninitialized || m == .indeterminate) noIndex
    (latchRequest (opcode (.init f)) f) (startRequest (fun _ => initSeq) (some .active)) s

/-- WAKE (42_lifecycle.md R193), accepted in Sleeping and Indeterminate. -/
def execWake (f : ReqFields) (s : State) : Host.Outcome State Fault Refusal :=
  takeRequest (fun m => m == .sleeping || m == .indeterminate) noIndex
    (latchRequest (opcode (.wake f)) f) (startRequest (fun _ => initSeq) (some .active)) s

/-- SLEEP (42_lifecycle.md R195), accepted in Active. -/
def execSleep (f : ReqFields) (s : State) : Host.Outcome State Fault Refusal :=
  takeRequest (fun m => m == .active) noIndex
    (latchRequest (opcode (.sleep f)) f) (startRequest (fun _ => sleepSeq) (some .sleeping)) s

/-- LOAD_LUTS (42_lifecycle.md R197), accepted in Active; LUTSEL is ignored. -/
def execLoadLuts (f : ReqFields) (s : State) : Host.Outcome State Fault Refusal :=
  takeRequest (fun m => m == .active) noIndex
    (latchRequest (opcode (.loadLuts f)) f) (startRequest (fun _ => lutSeq) none) s

end Sys2Proof.Machine
end

