-- ==== Sys2Proof/Machine/Transfer.lean ====
section
/-! DEFINITION. The frame transfer and display requests (43_frame_transfer.md), accepted in Active only
(42_lifecycle.md R190). -/

namespace Sys2Proof.Machine

/-- UPDATE_FULL (43_frame_transfer.md R222). -/
def execUpdateFull (f : ReqFields) (s : State) : Host.Outcome State Fault Refusal :=
  takeRequest (fun m => m == .active) noIndex
    (latchRequest (opcode (.updateFull f)) f) (startRequest (fun t => fullSeq (fbBytes t)) none) s

/-- UPDATE_PARTIAL (43_frame_transfer.md R224, R225): LEN over RBUF_SIZE is refused. -/
def execUpdatePartial (f : ReqFields) (s : State) : Host.Outcome State Fault Refusal :=
  takeRequest (fun m => m == .active) lengthOut
    (latchRegion (opcode (.updatePartial f)) f)
    (startRequest (fun t => partialSeq t.lat (rbufBytes t t.lat.len.toNat)) none) s

/-- DISPLAY (43_frame_transfer.md R229). -/
def execDisplay (f : ReqFields) (s : State) : Host.Outcome State Fault Refusal :=
  takeRequest (fun m => m == .active) noIndex
    (latchRequest (opcode (.display f)) f) (startRequest (fun _ => displaySeq) none) s

/-- UPDATE_AND_DISPLAY (43_frame_transfer.md R230). -/
def execUpdateAndDisplay (f : ReqFields) (s : State) : Host.Outcome State Fault Refusal :=
  takeRequest (fun m => m == .active) noIndex
    (latchRequest (opcode (.updateAndDisplay f)) f) (startRequest (fun t => fullSeq (fbBytes t) ++ displaySeq) none) s

/-- CLEAR_FRAME (43_frame_transfer.md R231). -/
def execClearFrame (f : ReqFields) (s : State) : Host.Outcome State Fault Refusal :=
  takeRequest (fun m => m == .active) noIndex
    (latchRequest (opcode (.clearFrame f)) f)
    (startRequest (fun t => fullSeq (List.replicate FB_BYTES (fillByte t.bg))) none) s

end Sys2Proof.Machine
end

