-- ==== Sys2Proof/Machine/Wire.lean ====
section
/-! DEFINITION. The wire commands (30_encoding.md R100): each is the CMD micro-op of its own OPC byte
(41_sequencer.md R162), the micro-op itself taken off SEQ by the fetch (log 10). -/

namespace Sys2Proof.Machine

/-- PANEL_SETTING: CMD(OPC(PANEL_SETTING)). -/
def execPanelSetting (s : State) : Host.Outcome State Fault Refusal :=
  .next (transmit .cmd (opcode .panelSetting) s)

/-- POWER_SETTING: CMD(OPC(POWER_SETTING)). -/
def execPowerSetting (s : State) : Host.Outcome State Fault Refusal :=
  .next (transmit .cmd (opcode .powerSetting) s)

/-- POWER_OFF: CMD(OPC(POWER_OFF)). -/
def execPowerOff (s : State) : Host.Outcome State Fault Refusal :=
  .next (transmit .cmd (opcode .powerOff) s)

/-- POWER_ON: CMD(OPC(POWER_ON)). -/
def execPowerOn (s : State) : Host.Outcome State Fault Refusal :=
  .next (transmit .cmd (opcode .powerOn) s)

/-- BOOSTER_SOFT_START: CMD(OPC(BOOSTER_SOFT_START)). -/
def execBoosterSoftStart (s : State) : Host.Outcome State Fault Refusal :=
  .next (transmit .cmd (opcode .boosterSoftStart) s)

/-- DEEP_SLEEP: CMD(OPC(DEEP_SLEEP)). -/
def execDeepSleep (s : State) : Host.Outcome State Fault Refusal :=
  .next (transmit .cmd (opcode .deepSleep) s)

/-- DATA_START_TRANSMISSION_1: CMD(OPC(DATA_START_TRANSMISSION_1)). No micro-sequence holds it (30_encoding.md R101; log 8). -/
def execDataStartTransmission1 (s : State) : Host.Outcome State Fault Refusal :=
  .next (transmit .cmd (opcode .dataStartTransmission1) s)

/-- DATA_STOP: CMD(OPC(DATA_STOP)). -/
def execDataStop (s : State) : Host.Outcome State Fault Refusal :=
  .next (transmit .cmd (opcode .dataStop) s)

/-- DISPLAY_REFRESH: CMD(OPC(DISPLAY_REFRESH)). -/
def execDisplayRefresh (s : State) : Host.Outcome State Fault Refusal :=
  .next (transmit .cmd (opcode .displayRefresh) s)

/-- DATA_START_TRANSMISSION_2: CMD(OPC(DATA_START_TRANSMISSION_2)). -/
def execDataStartTransmission2 (s : State) : Host.Outcome State Fault Refusal :=
  .next (transmit .cmd (opcode .dataStartTransmission2) s)

/-- PARTIAL_DATA_START_TRANSMISSION_1: CMD(OPC(PARTIAL_DATA_START_TRANSMISSION_1)). -/
def execPartialDataStartTransmission1 (s : State) : Host.Outcome State Fault Refusal :=
  .next (transmit .cmd (opcode .partialDataStartTransmission1) s)

/-- PARTIAL_DISPLAY_REFRESH: CMD(OPC(PARTIAL_DISPLAY_REFRESH)). -/
def execPartialDisplayRefresh (s : State) : Host.Outcome State Fault Refusal :=
  .next (transmit .cmd (opcode .partialDisplayRefresh) s)

/-- LUT_VCOM: CMD(OPC(LUT_VCOM)). -/
def execLutVcom (s : State) : Host.Outcome State Fault Refusal :=
  .next (transmit .cmd (opcode .lutVcom) s)

/-- LUT_WW: CMD(OPC(LUT_WW)). -/
def execLutWw (s : State) : Host.Outcome State Fault Refusal :=
  .next (transmit .cmd (opcode .lutWw) s)

/-- LUT_BW: CMD(OPC(LUT_BW)). -/
def execLutBw (s : State) : Host.Outcome State Fault Refusal :=
  .next (transmit .cmd (opcode .lutBw) s)

/-- LUT_WB: CMD(OPC(LUT_WB)). -/
def execLutWb (s : State) : Host.Outcome State Fault Refusal :=
  .next (transmit .cmd (opcode .lutWb) s)

/-- LUT_BB: CMD(OPC(LUT_BB)). -/
def execLutBb (s : State) : Host.Outcome State Fault Refusal :=
  .next (transmit .cmd (opcode .lutBb) s)

/-- PLL_CONTROL: CMD(OPC(PLL_CONTROL)). -/
def execPllControl (s : State) : Host.Outcome State Fault Refusal :=
  .next (transmit .cmd (opcode .pllControl) s)

/-- VCOM_AND_DATA_INTERVAL_SETTING: CMD(OPC(VCOM_AND_DATA_INTERVAL_SETTING)). -/
def execVcomAndDataIntervalSetting (s : State) : Host.Outcome State Fault Refusal :=
  .next (transmit .cmd (opcode .vcomAndDataIntervalSetting) s)

/-- VCM_DC_SETTING: CMD(OPC(VCM_DC_SETTING)). -/
def execVcmDcSetting (s : State) : Host.Outcome State Fault Refusal :=
  .next (transmit .cmd (opcode .vcmDcSetting) s)

/-- POWER_OPTIMIZATION: CMD(OPC(POWER_OPTIMIZATION)). -/
def execPowerOptimization (s : State) : Host.Outcome State Fault Refusal :=
  .next (transmit .cmd (opcode .powerOptimization) s)

end Sys2Proof.Machine
end

