-- ==== Sys2Proof/Machine/Dispatch.lean ====
section
/-! DEFINITION. One arm per instruction: exec sends each to its meaning. -/

namespace Sys2Proof.Machine

/-- The meaning of an instruction in a state. -/
def exec (i : Instr) (s : State) : Host.Outcome State Fault Refusal :=
  match i with
  | .init f => Sys2Proof.Machine.execInit f s
  | .wake f => Sys2Proof.Machine.execWake f s
  | .sleep f => Sys2Proof.Machine.execSleep f s
  | .updateFull f => Sys2Proof.Machine.execUpdateFull f s
  | .updatePartial f => Sys2Proof.Machine.execUpdatePartial f s
  | .display f => Sys2Proof.Machine.execDisplay f s
  | .updateAndDisplay f => Sys2Proof.Machine.execUpdateAndDisplay f s
  | .loadLuts f => Sys2Proof.Machine.execLoadLuts f s
  | .clearFrame f => Sys2Proof.Machine.execClearFrame f s
  | .setBg f => Sys2Proof.Machine.execSetBg f s
  | .getBg f => Sys2Proof.Machine.execGetBg f s
  | .getSize f => Sys2Proof.Machine.execGetSize f s
  | .setRotation f => Sys2Proof.Machine.execSetRotation f s
  | .getRotation f => Sys2Proof.Machine.execGetRotation f s
  | .drawPixel f => Sys2Proof.Machine.execDrawPixel f s
  | .fbRead f => Sys2Proof.Machine.execFbRead f s
  | .fbWrite f => Sys2Proof.Machine.execFbWrite f s
  | .fbFill f => Sys2Proof.Machine.execFbFill f s
  | .rbufWrite f => Sys2Proof.Machine.execRbufWrite f s
  | .panelSetting => Sys2Proof.Machine.execPanelSetting s
  | .powerSetting => Sys2Proof.Machine.execPowerSetting s
  | .powerOff => Sys2Proof.Machine.execPowerOff s
  | .powerOn => Sys2Proof.Machine.execPowerOn s
  | .boosterSoftStart => Sys2Proof.Machine.execBoosterSoftStart s
  | .deepSleep => Sys2Proof.Machine.execDeepSleep s
  | .dataStartTransmission1 => Sys2Proof.Machine.execDataStartTransmission1 s
  | .dataStop => Sys2Proof.Machine.execDataStop s
  | .displayRefresh => Sys2Proof.Machine.execDisplayRefresh s
  | .dataStartTransmission2 => Sys2Proof.Machine.execDataStartTransmission2 s
  | .partialDataStartTransmission1 => Sys2Proof.Machine.execPartialDataStartTransmission1 s
  | .partialDisplayRefresh => Sys2Proof.Machine.execPartialDisplayRefresh s
  | .lutVcom => Sys2Proof.Machine.execLutVcom s
  | .lutWw => Sys2Proof.Machine.execLutWw s
  | .lutBw => Sys2Proof.Machine.execLutBw s
  | .lutWb => Sys2Proof.Machine.execLutWb s
  | .lutBb => Sys2Proof.Machine.execLutBb s
  | .pllControl => Sys2Proof.Machine.execPllControl s
  | .vcomAndDataIntervalSetting => Sys2Proof.Machine.execVcomAndDataIntervalSetting s
  | .vcmDcSetting => Sys2Proof.Machine.execVcmDcSetting s
  | .powerOptimization => Sys2Proof.Machine.execPowerOptimization s

end Sys2Proof.Machine
end

