-- ==== Sys2Proof/Machine/Sequencer.lean ====
section
/-! DEFINITION. The sequencer's steps at the micro-ops that are no instruction (41_sequencer.md): DATA, WAIT, RESET
and DONE. The CMD micro-op is an instruction (Wire.lean). -/

namespace Sys2Proof.Machine

/-- DATA(b) step (41_sequencer.md R163). -/
def stepData (b : Byte) (rest : List MicroOp) (s : State) : State := transmit .data b (advance rest s)

/-- WAIT step: one sample of the busy line (41_sequencer.md R165, R166, R173). -/
def stepWait (rest : List MicroOp) (s : State) : State :=
  if (nextAnswer s).line = BUSY_ACTIVE_LEVEL then { takeAnswer s with waiting := true }
  else { emit .wait (advance rest (takeAnswer s)) with waiting := false }

/-- RESET(n, d) step (41_sequencer.md R167). It never fails (log 17). -/
def stepReset (n d : Nat) (rest : List MicroOp) (s : State) : State := emit (.reset n d) (advance rest s)

/-- DONE(m) step (41_sequencer.md R168). -/
def stepFinish (m : Option Mode) (s : State) : State := endSeq { s with mode := m.getD s.mode }

end Sys2Proof.Machine
end

