-- ==== Sys2Proof/Machine/Control.lean ====
section
/-! DEFINITION. One move of each agent: the sequencer at the head of SEQ (41_sequencer.md R177) and the host at its
next action (10_state.md R23); and which of them moves (log 1, log 18). -/

namespace Sys2Proof.Machine

/-- One sequencer step: it executes the head micro-op of SEQ. A CMD micro-op runs the wire command its byte decodes
to. With no request in flight nothing happens (log 11). -/
def sequencerStep (s : State) : Host.Outcome State Fault Refusal :=
  match s.seq with
  | [] => .next s
  | .cmd b :: rest =>
    match decode (.command b) with
    | .ok i => exec i (advance rest s)
    | .error _ => .refused (.notInCommandTable b)
  | .data b :: rest => .next (stepData b rest s)
  | .wait :: rest => .next (stepWait rest s)
  | .reset n d :: rest => .next (stepReset n d rest s)
  | .finish m :: _ => .next (stepFinish m s)

/-- A REQ0 write issues the request its word decodes to; a word that decodes to none is refused with
RequestWhileBusy while a request is in flight, else with IllegalRequest (60_exceptions.md R258). -/
def issueRequest (w : Word) (s : State) : Host.Outcome State Fault Refusal :=
  match decode (.request w) with
  | .ok i => exec i s
  | .error _ => .next (raise (if s.busy then .requestWhileBusy else .illegalRequest) s)

/-- A host write (10_state.md R24): REQ0 keeps the written word whatever becomes of the request. -/
def hostWrite (off : BitVec 5) (v : Word) (s : State) : Host.Outcome State Fault Refusal :=
  if off = 0x00#5 then issueRequest v (writeReg off v s) else .next (writeReg off v s)

/-- A host read: it has no side effect on the block (20_memory.md R71; log 13). -/
def hostRead (off : BitVec 5) (s : State) : State := { s with hostData := readReg off s }

/-- Hardware reset of the block (10_state.md R43, R44). The model's own fields go on, and RBUF is drawn again
(log 14). -/
def hardwareReset (s : State) : State :=
  { State.reset with
    todo := s.todo, hostData := s.hostData, env := s.env, draws := s.draws, resets := s.resets + 1 }

/-- One step of the poll loop WAIT_DONE (30_encoding.md R103; log 12): the host reads STATUS; while BUSY is 1 the
sequencer moves and the loop stays next. -/
def hostPoll (rest : List HostAction) (s : State) : Host.Outcome State Fault Refusal :=
  if s.busy then sequencerStep (hostRead 0x14#5 s) else .next (hostRead 0x14#5 { s with todo := rest })

/-- One host action, `rest` being the actions after it. -/
def hostStep (a : HostAction) (rest : List HostAction) (s : State) : Host.Outcome State Fault Refusal :=
  match a with
  | .write off v => hostWrite off v { s with todo := rest }
  | .read off => .next (hostRead off { s with todo := rest })
  | .hardwareReset => .next (hardwareReset { s with todo := rest })
  | .pass => sequencerStep { s with todo := rest }
  | .waitDone => hostPoll rest s

/-- The next move: the host's next action, or, where it has none, the sequencer's step. -/
def nextMove (s : State) : Host.Outcome State Fault Refusal :=
  match s.todo with
  | [] => sequencerStep s
  | a :: rest => hostStep a rest s

/-- The host's next action is to write `w` to REQ0. -/
def placeRequest (w : Word) (s : State) : State := { s with todo := .write 0x00#5 w :: s.todo }

/-- The sequencer moves next, and its next micro-op is CMD(b). -/
def placeCommand (b : Byte) (s : State) : State := { s with todo := .pass :: s.todo, seq := .cmd b :: s.seq }

end Sys2Proof.Machine
end

