-- ==== Sys2Proof/Machine/Step.lean ====
section
/-! DEFINITION. One step of the machine, and where an instruction is placed for the next step to run it. -/

namespace Sys2Proof.Machine

/-- One step: one move of one agent. -/
def step (s : State) : Host.Outcome State Fault Refusal := nextMove s

/-- The instruction of a table row of `nbits` bits stored where the next step takes it from: a wire command byte as
the next micro-op of SEQ, a request word as the host's next write of REQ0 (log 1). -/
def State.withFetchWord (s : State) (nbits w : Nat) : State :=
  let bits := w % 2 ^ nbits
  if nbits ≤ 8 then placeCommand (BitVec.ofNat 8 bits) s else placeRequest (BitVec.ofNat 32 bits) s

end Sys2Proof.Machine
end

