-- ==== Sys2Proof/Machine/Lines.lean ====
section
/-! DEFINITION. Views of a wire event at the level of the lines (41_sequencer.md R167, R175; 20_memory.md R65). No
step depends on them: a claim about pin levels is outside the block (93_implementation_defined.md U17; log 20). -/

namespace Sys2Proof.Machine

/-- The level of the data/command line while a byte of this kind is sent (41_sequencer.md R175). -/
def kindLevel : TxKind → BitVec 1
  | .cmd => DC_CMD_LEVEL
  | .data => ~~~DC_CMD_LEVEL

/-- The level of the data/command line during an event; none where the spec leaves it unspecified (R175). -/
def dcLevel : WireEvent → Option (BitVec 1)
  | .cmd _ => some (kindLevel .cmd)
  | .data _ => some (kindLevel .data)
  | .reset _ _ => none
  | .wait => none
  | .txFail k _ => some (kindLevel k)

/-- The pulse train of RESET(n, d): per pulse the line low for d ms, then high for d ms (41_sequencer.md R167). -/
def resetPulses (n d : Nat) : List (BitVec 1 × Nat) :=
  (List.replicate n [(0#1, d), (1#1, d)]).flatten

/-- The bits of a byte in the order of the serial line, most significant first (20_memory.md R65). -/
def serialBits (b : Byte) : List Bool := (List.range 8).map fun k => b.getLsbD (7 - k)

end Sys2Proof.Machine
end

