-- ==== Sys2Proof/Machine/Assembler.lean ====
section
/-! DEFINITION. The assembler syntax of host requests and the pseudo-instructions (30_encoding.md R102, R103): a
line, its operand ranges, the host actions it assembles to, and its text. -/

namespace Sys2Proof.Machine

/-- One request line (30_encoding.md R102), its numbers as written. -/
inductive Line where
  | init
  | wake
  | sleep
  | updateFull
  | updatePartial (x y w h len : Int)
  | display
  | updateAndDisplay
  | loadLuts (sel : Int)
  | clearFrame
  | setBg (c : Colour)
  | getBg
  | getSize
  | setRotation (r : Rotation)
  | getRotation
  | drawPixel (x y : Int) (c : Colour)
  | fbRead (i : Int)
  | fbWrite (i v : Int)
  | fbFill (c : Colour)
  | rbufWrite (i v : Int)
deriving DecidableEq, Repr

/-- The number fits an unsigned field of `n` bits. -/
def fitsUnsigned (n : Nat) (v : Int) : Bool := decide (0 ≤ v) && decide (v < 2 ^ n)

/-- The number fits a signed 16-bit field. -/
def fitsSigned (v : Int) : Bool := decide (-32768 ≤ v) && decide (v ≤ 32767)

/-- The operands of the line fit their fields (30_encoding.md R95, R102). -/
def Line.wellFormed : Line → Bool
  | .updatePartial x y w h len =>
    fitsUnsigned 16 x && fitsUnsigned 16 y && fitsUnsigned 16 w && fitsUnsigned 16 h && fitsUnsigned 16 len
  | .loadLuts sel => fitsUnsigned 8 sel
  | .drawPixel x y _ => fitsSigned x && fitsSigned y
  | .fbRead i => fitsUnsigned 16 i
  | .fbWrite i v => fitsUnsigned 16 i && fitsUnsigned 8 v
  | .rbufWrite i v => fitsUnsigned 16 i && fitsUnsigned 8 v
  | _ => true

/-- A request with every operand field zero. -/
def noFields : ReqFields := { color := .black, rotf := .deg0, lutsel := 0#8 }

/-- The request of a line, with the COLOR, ROTF or LUTSEL field its operation reads (30_encoding.md R102). -/
def Line.instr : Line → Instr
  | .init => .init noFields
  | .wake => .wake noFields
  | .sleep => .sleep noFields
  | .updateFull => .updateFull noFields
  | .updatePartial _ _ _ _ _ => .updatePartial noFields
  | .display => .display noFields
  | .updateAndDisplay => .updateAndDisplay noFields
  | .loadLuts sel => .loadLuts { noFields with lutsel := BitVec.ofInt 8 sel }
  | .clearFrame => .clearFrame noFields
  | .setBg c => .setBg { noFields with color := c }
  | .getBg => .getBg noFields
  | .getSize => .getSize noFields
  | .setRotation r => .setRotation { noFields with rotf := r }
  | .getRotation => .getRotation noFields
  | .drawPixel _ _ c => .drawPixel { noFields with color := c }
  | .fbRead _ => .fbRead noFields
  | .fbWrite _ _ => .fbWrite noFields
  | .fbFill c => .fbFill { noFields with color := c }
  | .rbufWrite _ _ => .rbufWrite noFields

/-- Two 16-bit fields as an ARG word, the first in bits 15:0 (30_encoding.md R95). -/
def packHalves (lo hi : Int) : Word := placeField (BitVec.ofInt 16 lo) 0 ||| placeField (BitVec.ofInt 16 hi) 16

/-- The ARG writes the line's request needs (30_encoding.md R95, R102). -/
def Line.argWrites : Line → List HostAction
  | .updatePartial x y w h len =>
    [.write 0x04#5 (packHalves x y), .write 0x08#5 (packHalves w h), .write 0x0C#5 (packHalves len 0)]
  | .drawPixel x y _ => [.write 0x04#5 (packHalves x y)]
  | .fbRead i => [.write 0x04#5 (packHalves i 0)]
  | .fbWrite i v => [.write 0x04#5 (packHalves i 0), .write 0x08#5 (packHalves v 0)]
  | .rbufWrite i v => [.write 0x04#5 (packHalves i 0), .write 0x08#5 (packHalves v 0)]
  | _ => []

/-- The REQ0 word of a request; zero for a wire command, which is no request. -/
def reqWordOf (i : Instr) : Word :=
  match encode i with
  | .request w => w
  | .command _ => 0#32

/-- What a line assembles to: its ARG writes, one REQ0 write, then WAIT_DONE (30_encoding.md R102). -/
def assemble (l : Line) : List HostAction :=
  l.argWrites ++ [.write 0x00#5 (reqWordOf l.instr), .waitDone]

/-- The pseudo-instruction REQ op, arg0, arg1, arg2 (30_encoding.md R103). -/
def assembleReq (op arg0 arg1 arg2 : Word) : List HostAction :=
  [.write 0x04#5 arg0, .write 0x08#5 arg1, .write 0x0C#5 arg2, .write 0x00#5 op, .waitDone]

/-! ## Text -/

/-- The words of a line: blanks and commas separate them (log 21). -/
def splitWords : List Char → List Char → List (List Char)
  | word, [] => if word = [] then [] else [word]
  | word, c :: cs =>
    if c = ' ' ∨ c = ',' then (if word = [] then splitWords [] cs else word :: splitWords [] cs)
    else splitWords (word ++ [c]) cs

/-- The value of a digit in a base up to 16. -/
def digitValue (base : Nat) (c : Char) : Option Nat :=
  let n := c.toNat
  let d := if 48 ≤ n ∧ n ≤ 57 then some (n - 48)
    else if 97 ≤ n ∧ n ≤ 102 then some (n - 87)
    else if 65 ≤ n ∧ n ≤ 70 then some (n - 55)
    else none
  d.filter (· < base)

/-- The number a list of digits continues from `acc`. -/
def digitsValue (base : Nat) : Nat → List Char → Option Nat
  | acc, [] => some acc
  | acc, c :: cs => (digitValue base c).bind fun d => digitsValue base (acc * base + d) cs

/-- An unsigned number: decimal, or hexadecimal after 0x (30_encoding.md R102). -/
def parseNat : List Char → Option Nat
  | [] => none
  | ['0', 'x'] => none
  | '0' :: 'x' :: cs => digitsValue 16 0 cs
  | cs => digitsValue 10 0 cs

/-- A number with an optional minus sign. -/
def parseInt : List Char → Option Int
  | '-' :: cs => (parseNat cs).map fun n => -(n : Int)
  | cs => (parseNat cs).map fun n => (n : Int)

/-- `white` or `black`. -/
def parseColour (w : List Char) : Option Colour :=
  if w = "white".toList then some .white else if w = "black".toList then some .black else none

/-- `0`, `90`, `180` or `270`. -/
def parseRotation (w : List Char) : Option Rotation :=
  if w = "0".toList then some .deg0 else if w = "90".toList then some .deg90
  else if w = "180".toList then some .deg180 else if w = "270".toList then some .deg270 else none

/-- The lines without operands, by name. -/
def plainLine (w : List Char) : Option Line :=
  if w = "INIT".toList then some .init
  else if w = "WAKE".toList then some .wake
  else if w = "SLEEP".toList then some .sleep
  else if w = "UPDATE_FULL".toList then some .updateFull
  else if w = "DISPLAY".toList then some .display
  else if w = "UPDATE_AND_DISPLAY".toList then some .updateAndDisplay
  else if w = "LOAD_LUTS".toList then some (.loadLuts 0)
  else if w = "CLEAR_FRAME".toList then some .clearFrame
  else if w = "GET_BG".toList then some .getBg
  else if w = "GET_SIZE".toList then some .getSize
  else if w = "GET_ROTATION".toList then some .getRotation
  else none

/-- The lines with one operand. -/
def unaryLine (w a : List Char) : Option Line :=
  if w = "LOAD_LUTS".toList then (parseInt a).map .loadLuts
  else if w = "SET_BG".toList then (parseColour a).map .setBg
  else if w = "SET_ROTATION".toList then (parseRotation a).map .setRotation
  else if w = "FB_READ".toList then (parseInt a).map .fbRead
  else if w = "FB_FILL".toList then (parseColour a).map .fbFill
  else none

/-- The lines with two operands. -/
def binaryLine (w a b : List Char) : Option Line :=
  (parseInt a).bind fun i => (parseInt b).bind fun v =>
    if w = "FB_WRITE".toList then some (.fbWrite i v)
    else if w = "RBUF_WRITE".toList then some (.rbufWrite i v)
    else none

/-- The line a list of words is, if any (30_encoding.md R102). -/
def lineOfWords : List (List Char) → Option Line
  | [w] => plainLine w
  | [w, a] => unaryLine w a
  | [w, a, b] => binaryLine w a b
  | [w, a, b, c] =>
    if w = "DRAW_PIXEL".toList then
      (parseInt a).bind fun x => (parseInt b).bind fun y => (parseColour c).map fun col => .drawPixel x y col
    else none
  | [w, a, b, c, d, e] =>
    if w = "UPDATE_PARTIAL".toList then
      (parseInt a).bind fun x => (parseInt b).bind fun y => (parseInt c).bind fun wd => (parseInt d).bind fun ht =>
        (parseInt e).map fun len => .updatePartial x y wd ht len
    else none
  | _ => none

/-- The line a text is: none where it is no line or an operand does not fit its field. -/
def parseLine (text : List Char) : Option Line := (lineOfWords (splitWords [] text)).filter Line.wellFormed

end Sys2Proof.Machine
end

