-- ==== Sys2Proof/WellFormed.lean ====
section
/-! DEFINITION. Well-formed instructions: those the spec's own writers produce. A request word is well formed when
the fields its operation does not read are zero, as the assembler writes it (30_encoding.md R102); a wire command
is well formed when some micro-sequence sends it (30_encoding.md R101). An instruction that is not well formed
still decodes and runs: R94 lets an ignored field hold any value (log 19). -/

namespace Sys2Proof

/-- COLOR is zero. -/
def ReqFields.colorZero (f : ReqFields) : Bool := f.color == .black

/-- ROTF is zero. -/
def ReqFields.rotfZero (f : ReqFields) : Bool := f.rotf == .deg0

/-- LUTSEL is zero. -/
def ReqFields.lutselZero (f : ReqFields) : Bool := f.lutsel == 0#8

/-- No field of the request is read (30_encoding.md R94). -/
def ReqFields.readsNone (f : ReqFields) : Bool := f.colorZero && f.rotfZero && f.lutselZero

/-- Only COLOR is read. -/
def ReqFields.readsColor (f : ReqFields) : Bool := f.rotfZero && f.lutselZero

/-- Only ROTF is read. -/
def ReqFields.readsRotf (f : ReqFields) : Bool := f.colorZero && f.lutselZero

/-- Only LUTSEL is read. -/
def ReqFields.readsLutsel (f : ReqFields) : Bool := f.colorZero && f.rotfZero

/-- The well-formedness check. -/
def WellFormed : Instr → Bool
  | .init f => f.readsNone
  | .wake f => f.readsNone
  | .sleep f => f.readsNone
  | .updateFull f => f.readsNone
  | .updatePartial f => f.readsNone
  | .display f => f.readsNone
  | .updateAndDisplay f => f.readsNone
  | .loadLuts f => f.readsLutsel
  | .clearFrame f => f.readsNone
  | .setBg f => f.readsColor
  | .getBg f => f.readsNone
  | .getSize f => f.readsNone
  | .setRotation f => f.readsRotf
  | .getRotation f => f.readsNone
  | .drawPixel f => f.readsColor
  | .fbRead f => f.readsNone
  | .fbWrite f => f.readsNone
  | .fbFill f => f.readsColor
  | .rbufWrite f => f.readsNone
  | .panelSetting => true
  | .powerSetting => true
  | .powerOff => true
  | .powerOn => true
  | .boosterSoftStart => true
  | .deepSleep => true
  | .dataStartTransmission1 => false
  | .dataStop => true
  | .displayRefresh => true
  | .dataStartTransmission2 => true
  | .partialDataStartTransmission1 => true
  | .partialDisplayRefresh => true
  | .lutVcom => true
  | .lutWw => true
  | .lutBw => true
  | .lutWb => true
  | .lutBb => true
  | .pllControl => true
  | .vcomAndDataIntervalSetting => true
  | .vcmDcSetting => true
  | .powerOptimization => true

end Sys2Proof
end

