-- ==== Sys2Proof/Safety.lean ====
section
/-! DEFINITION. What a safe step is, the invariant of the block, and the terms in which claims about runs, answers and
pixels are stated. -/

namespace Sys2Proof.Machine

/-- A safe outcome: the machine goes on. -/
def Safe (o : Host.Outcome State Fault Refusal) : Prop := ∃ t, o = .next t

/-- A byte the block sends as a command: the OPC value of a command some micro-sequence names (30_encoding.md R101). -/
def SentCommand (b : Byte) : Prop := ∃ i, decode (.command b) = .ok i ∧ WellFormed i = true

/-- A legal end of a micro-sequence (42_lifecycle.md R190): no mode, Active or Sleeping. -/
def LegalEnd (m : Option Mode) : Prop := m = none ∨ m = some .active ∨ m = some .sleeping

/-- SEQ while a request is in flight: micro-ops that are no DONE, then one DONE (41_sequencer.md R161). -/
def LegalSeq (ops : List MicroOp) : Prop :=
  ∃ body m, ops = body ++ [.finish m] ∧ LegalEnd m ∧
    (∀ m', MicroOp.finish m' ∉ body) ∧ ∀ b, MicroOp.cmd b ∈ body → SentCommand b

/-- The invariant of the block: what 10_state.md, 20_memory.md, 41_sequencer.md and 60_exceptions.md promise of
every state a run passes through. -/
structure BlockInv (s : State) : Prop where
  /-- FB is in canonical form. -/
  fbCanonical : Memory.wf (some FB_BLANK) FB_BYTES s.fb = true
  /-- RBUF is in canonical form. -/
  rbufCanonical : Memory.wf none RBUF_SIZE s.rbuf = true
  /-- STATUS.BUSY is 1 exactly while SEQ is not empty (R28, R33). -/
  busyIffSeq : s.busy = true ↔ s.seq ≠ []
  /-- A SEQ in flight has the form acceptance gave it (R161). -/
  seqLegal : s.seq ≠ [] → LegalSeq s.seq
  /-- STATUS.WAITING is 1 only at a WAIT (R173). -/
  waitingAtWait : s.waiting = true → ∃ rest, s.seq = .wait :: rest
  /-- upc is 0 when no request is in flight (R33). -/
  idleUpc : s.seq = [] → s.upc = 0
  /-- LAST_ERR is 0 while a request is in flight (R161, R168). -/
  busyNoError : s.busy = true → s.lastErr = .none
  /-- A transport error code leaves its sticky bit set (R250, R261). -/
  transportSticky : s.lastErr = .transportError → s.stickyTx = true
  /-- A refusal code leaves its sticky bit set (R250, R261). -/
  refusalSticky : s.lastErr ≠ .none → s.lastErr ≠ .transportError → s.stickyFault = true
  /-- OVERRUN comes with STICKY_FAULT (R256). -/
  overrunSticky : s.overrun = true → s.stickyFault = true
  /-- MODE is Indeterminate only after a TransportError (R264). -/
  indeterminateSticky : s.mode = .indeterminate → s.stickyTx = true
  /-- STICKY_TX is 1 exactly when the trace holds a failed transmission (R28, R169). -/
  stickyIffFailed : s.stickyTx = true ↔ ∃ k b, WireEvent.txFail k b ∈ s.trace
  /-- Every command byte in the trace is one the block sends (R101). -/
  traceCommands : ∀ b, WireEvent.cmd b ∈ s.trace ∨ WireEvent.txFail .cmd b ∈ s.trace → SentCommand b

/-- `n` steps, stopping at the first fault or refusal. -/
def steps : Nat → State → Host.Outcome State Fault Refusal
  | 0, s => .next s
  | n + 1, s =>
    match step s with
    | .next t => steps n t
    | .fault r => .fault r
    | .refused r => .refused r

/-- The environment's answer `n` draws from now, 0 the next one. -/
def answerAt (s : State) (n : Nat) : EnvAnswer :=
  (s.env[n]?).getD { txOk := Config.txOk (s.draws + n), line := Config.busyLine (s.draws + n) }

/-- The sequencer moves at every step until the request in flight ends: the host has nothing to do, or polls STATUS
(41_sequencer.md R177, 30_encoding.md R103; log 1, log 12). -/
def SequencerRuns (s : State) : Prop := s.todo = [] ∨ (s.busy = true ∧ ∃ rest, s.todo = .waitDone :: rest)

/-- The answers `a`, from number `n` up to but not `k`, bring micro-ops to their end: every byte is delivered, and every
WAIT samples the busy level some finite number of times, then the idle level (41_sequencer.md R162, R163, R166,
R177). A RESET draws no answer. DONE has no place in the list. -/
inductive Delivered (a : Nat → EnvAnswer) : Nat → List MicroOp → Nat → Prop
  | nil {n : Nat} : Delivered a n [] n
  | cmd {n k : Nat} {b : Byte} {ops : List MicroOp} (ok : (a n).txOk = true) (h : Delivered a (n + 1) ops k) :
      Delivered a n (.cmd b :: ops) k
  | data {n k : Nat} {b : Byte} {ops : List MicroOp} (ok : (a n).txOk = true) (h : Delivered a (n + 1) ops k) :
      Delivered a n (.data b :: ops) k
  | busy {n k : Nat} {ops : List MicroOp} (line : (a n).line = BUSY_ACTIVE_LEVEL)
      (h : Delivered a (n + 1) (.wait :: ops) k) : Delivered a n (.wait :: ops) k
  | idle {n k : Nat} {ops : List MicroOp} (line : (a n).line ≠ BUSY_ACTIVE_LEVEL) (h : Delivered a (n + 1) ops k) :
      Delivered a n (.wait :: ops) k
  | reset {n k p d : Nat} {ops : List MicroOp} (h : Delivered a n ops k) : Delivered a n (.reset p d :: ops) k

/-- The micro-op is a RESET, which takes a step but no answer (41_sequencer.md R167, R177). -/
def MicroOp.isReset : MicroOp → Bool
  | .cmd _ => false
  | .data _ => false
  | .wait => false
  | .reset _ _ => true
  | .finish _ => false

/-- How many of the micro-ops are RESETs. -/
def resetCount (ops : List MicroOp) : Nat := (ops.filter MicroOp.isReset).length

/-- The wire event of a micro-op that succeeds (41_sequencer.md R160). -/
def MicroOp.event : MicroOp → Option WireEvent
  | .cmd b => some (.cmd b)
  | .data b => some (.data b)
  | .wait => some .wait
  | .reset n d => some (.reset n d)
  | .finish _ => none

/-- The wire events of micro-ops that all succeed. -/
def successEvents (ops : List MicroOp) : List WireEvent := ops.filterMap MicroOp.event

/-- The bit of a physical pixel in FB (20_memory.md R77). -/
def pixelAt (s : State) (p : Nat × Nat) : Bool := (fbByte s (pixelIndex p)).getLsbD (pixelBit p)

/-- Every logical pixel of an orientation, row by row. -/
def logicalPixels (r : Rotation) : List (Nat × Nat) :=
  (List.range (logicalSize r).2).flatMap fun y => (List.range (logicalSize r).1).map fun x => (x, y)

/-- One DRAW_PIXEL request per listed logical coordinate, its operand in ARG0. -/
def drawAll (c : Colour) : List (Nat × Nat) → State → Host.Outcome State Fault Refusal
  | [], s => .next s
  | p :: ps, s =>
    match exec (.drawPixel { noFields with color := c }) { s with arg0 := packHalves p.1 p.2 } with
    | .next t => drawAll c ps t
    | .fault r => .fault r
    | .refused r => .refused r

end Sys2Proof.Machine
end

