-- ==== Sys2Proof/Certificates/Slice0/Obligations.lean ====
section
/-! DEFINITION. The statements about the panel controller. Each docstring names the rule of spec/ it formalises, and
the log entry where it rests on a choice of the model. -/

open Sys2Proof Sys2Proof.Machine

/-! ## What the spec writes out, for the statements below -/

/-- One DATA micro-op per byte. -/
def Sys2Proof.Expected.dataOps (bs : List Byte) : List MicroOp := bs.map MicroOp.data

/-- The LUT micro-sequence written out from 42_lifecycle.md R196 with the bytes of 30_encoding.md R100. -/
def Sys2Proof.Expected.lutOps : List MicroOp :=
  MicroOp.wait ::
    (MicroOp.cmd 0x20#8 :: Expected.dataOps Config.lutVcom) ++ (MicroOp.cmd 0x21#8 :: Expected.dataOps Config.lutWw) ++
    (MicroOp.cmd 0x22#8 :: Expected.dataOps Config.lutBw) ++ (MicroOp.cmd 0x23#8 :: Expected.dataOps Config.lutWb) ++
    (MicroOp.cmd 0x24#8 :: Expected.dataOps Config.lutBb)

/-- The initialisation micro-sequence up to the LUTs, written out from 42_lifecycle.md R191 and 95_test_vectors.md
L2-30, the open payload bytes by their names. -/
def Sys2Proof.Expected.powerUpOps : List MicroOp :=
  [.reset 2 Config.resetDelayMs,
   .cmd 0x01#8, .data 0x03#8, .data 0x00#8, .data 0x2B#8, .data 0x2B#8, .data 0x09#8,
   .cmd 0x06#8, .data (Config.pBooster 0), .data (Config.pBooster 1), .data (Config.pBooster 2),
   .cmd 0xF8#8, .data (Config.pPoweroptAddr 0), .data (Config.pPoweroptVal 0),
   .cmd 0xF8#8, .data (Config.pPoweroptAddr 1), .data (Config.pPoweroptVal 1),
   .cmd 0xF8#8, .data (Config.pPoweroptAddr 2), .data (Config.pPoweroptVal 2),
   .cmd 0xF8#8, .data (Config.pPoweroptAddr 3), .data (Config.pPoweroptVal 3),
   .cmd 0xF8#8, .data (Config.pPoweroptAddr 4), .data (Config.pPoweroptVal 4),
   .cmd 0xF8#8, .data (Config.pPoweroptAddr 5), .data (Config.pPoweroptVal 5),
   .cmd 0xF8#8, .data (Config.pPoweroptAddr 6), .data (Config.pPoweroptVal 6),
   .cmd 0x16#8, .data 0x00#8,
   .cmd 0x04#8, .wait,
   .cmd 0x00#8, .data Config.pPanel,
   .cmd 0x30#8, .data Config.pPll,
   .cmd 0x82#8, .data Config.pVcmdc]

/-- The whole initialisation micro-sequence (42_lifecycle.md R191). -/
def Sys2Proof.Expected.initOps : List MicroOp := Expected.powerUpOps ++ Expected.lutOps

/-- The wire commands with their bytes, written out from 30_encoding.md R100. -/
def Sys2Proof.Expected.commandBytes : List (Instr × Byte) :=
  [(.panelSetting, 0x00#8), (.powerSetting, 0x01#8), (.powerOff, 0x02#8), (.powerOn, 0x04#8),
   (.boosterSoftStart, 0x06#8), (.deepSleep, 0x07#8), (.dataStartTransmission1, 0x10#8), (.dataStop, 0x11#8),
   (.displayRefresh, 0x12#8), (.dataStartTransmission2, 0x13#8), (.partialDataStartTransmission1, 0x14#8),
   (.partialDisplayRefresh, 0x16#8), (.lutVcom, 0x20#8), (.lutWw, 0x21#8), (.lutBw, 0x22#8), (.lutWb, 0x23#8),
   (.lutBb, 0x24#8), (.pllControl, 0x30#8), (.vcomAndDataIntervalSetting, 0x50#8), (.vcmDcSetting, 0x82#8),
   (.powerOptimization, 0xF8#8)]

/-- The wire requests with the modes that accept them, written out from 42_lifecycle.md R190. -/
def Sys2Proof.Expected.acceptedModes (f : ReqFields) : List (Instr × List Mode) :=
  [(.init f, [.uninitialized, .indeterminate]), (.wake f, [.sleeping, .indeterminate]), (.sleep f, [.active]),
   (.loadLuts f, [.active]), (.updateFull f, [.active]), (.updatePartial f, [.active]), (.display f, [.active]),
   (.updateAndDisplay f, [.active]), (.clearFrame f, [.active])]

/-- The request of an assembler line, written out from 30_encoding.md R102: the operation of its name, the COLOR, ROTF
or LUTSEL field it has an operand for, every other field zero. -/
def Sys2Proof.Expected.lineRequest (l : Line) (i : Instr) : Prop :=
  match l with
  | .init => i = .init ⟨.black, .deg0, 0#8⟩
  | .wake => i = .wake ⟨.black, .deg0, 0#8⟩
  | .sleep => i = .sleep ⟨.black, .deg0, 0#8⟩
  | .updateFull => i = .updateFull ⟨.black, .deg0, 0#8⟩
  | .updatePartial _ _ _ _ _ => i = .updatePartial ⟨.black, .deg0, 0#8⟩
  | .display => i = .display ⟨.black, .deg0, 0#8⟩
  | .updateAndDisplay => i = .updateAndDisplay ⟨.black, .deg0, 0#8⟩
  | .loadLuts sel => ∃ b : Byte, b.toNat = sel ∧ i = .loadLuts ⟨.black, .deg0, b⟩
  | .clearFrame => i = .clearFrame ⟨.black, .deg0, 0#8⟩
  | .setBg c => i = .setBg ⟨c, .deg0, 0#8⟩
  | .getBg => i = .getBg ⟨.black, .deg0, 0#8⟩
  | .getSize => i = .getSize ⟨.black, .deg0, 0#8⟩
  | .setRotation r => i = .setRotation ⟨.black, r, 0#8⟩
  | .getRotation => i = .getRotation ⟨.black, .deg0, 0#8⟩
  | .drawPixel _ _ c => i = .drawPixel ⟨c, .deg0, 0#8⟩
  | .fbRead _ => i = .fbRead ⟨.black, .deg0, 0#8⟩
  | .fbWrite _ _ => i = .fbWrite ⟨.black, .deg0, 0#8⟩
  | .fbFill c => i = .fbFill ⟨c, .deg0, 0#8⟩
  | .rbufWrite _ _ => i = .rbufWrite ⟨.black, .deg0, 0#8⟩

/-- The ARG registers of `u` hold the operands of an assembler line, each in its field, and those the line's row does
not name are as in `s`: written out from the table of 30_encoding.md R95. -/
def Sys2Proof.Expected.lineOperands (l : Line) (s u : State) : Prop :=
  match l with
  | .updatePartial x y w h len =>
    (u.arg0.extractLsb' 0 16).toNat = x ∧ (u.arg0.extractLsb' 16 16).toNat = y ∧
    (u.arg1.extractLsb' 0 16).toNat = w ∧ (u.arg1.extractLsb' 16 16).toNat = h ∧
    (u.arg2.extractLsb' 0 16).toNat = len
  | .drawPixel x y _ =>
    (u.arg0.extractLsb' 0 16).toInt = x ∧ (u.arg0.extractLsb' 16 16).toInt = y ∧ u.arg1 = s.arg1 ∧ u.arg2 = s.arg2
  | .fbRead i => (u.arg0.extractLsb' 0 16).toNat = i ∧ u.arg1 = s.arg1 ∧ u.arg2 = s.arg2
  | .fbWrite i v =>
    (u.arg0.extractLsb' 0 16).toNat = i ∧ (u.arg1.extractLsb' 0 8).toNat = v ∧ u.arg2 = s.arg2
  | .rbufWrite i v =>
    (u.arg0.extractLsb' 0 16).toNat = i ∧ (u.arg1.extractLsb' 0 8).toNat = v ∧ u.arg2 = s.arg2
  | .init | .wake | .sleep | .updateFull | .display | .updateAndDisplay | .loadLuts _ | .clearFrame | .setBg _
  | .getBg | .getSize | .setRotation _ | .getRotation | .fbFill _ =>
    u.arg0 = s.arg0 ∧ u.arg1 = s.arg1 ∧ u.arg2 = s.arg2

/-- A step of the sequencer does `f`, each way the sequencer comes to move: the host has nothing to do, lets the block run
for one step (that action being over), or polls STATUS while BUSY is 1 (the poll loop staying, the host holding the
STATUS word it read). The forms of the host's actions are the model's choices (log 1, log 12). -/
def Sys2Proof.Expected.sequencerTurn (s : State) (f : State → State) : Prop :=
  (s.todo = [] → step s = .next (f s)) ∧
  (∀ rest, s.todo = .pass :: rest → step s = .next (f { s with todo := rest })) ∧
  (∀ rest, s.todo = .waitDone :: rest → s.busy = true → step s = .next (f { s with hostData := statusWord s }))

/-! ## Encoding -/

/-- Decoding an encoded instruction gives it back, with every operand field at every value, for all forty
instructions (30_encoding.md R91, R92, R100). -/
def Obligations.EncodeThenDecodeIsIdentity : Prop :=
  ∀ i : Instr, decode (encode i) = .ok i

/-- Every code the decoder accepts is the encoding of what it reads: no bit of a request word or command byte is
dropped (30_encoding.md R91, R94, R100). -/
def Obligations.DecodeThenEncodeIsIdentity : Prop :=
  ∀ (c : Code) (i : Instr), decode c = .ok i → encode i = c

/-- A request word decodes exactly when its reserved fields are zero and its OP is in one of the two ranges of
30_encoding.md R92 (R93, R94). -/
def Obligations.RequestWordDecodesUnlessReserved : Prop :=
  ∀ w : Word, (∃ i, decode (.request w) = .ok i) ↔
    (w.extractLsb' 11 5 = 0#5 ∧ w.extractLsb' 24 8 = 0#8 ∧
      ((0x01 ≤ (w.extractLsb' 0 8).toNat ∧ (w.extractLsb' 0 8).toNat ≤ 0x09) ∨
       (0x10 ≤ (w.extractLsb' 0 8).toNat ∧ (w.extractLsb' 0 8).toNat ≤ 0x19)))

/-- The example words of 30_encoding.md R104 and some bytes of R100 decode to the instructions they stand for. -/
def Obligations.ExampleWordsDecode : Prop :=
  decode (.request 0x00000015#32) = .ok (.drawPixel ⟨.black, .deg0, 0#8⟩) ∧
  decode (.request 0x00000115#32) = .ok (.drawPixel ⟨.white, .deg0, 0#8⟩) ∧
  decode (.request 0x00000213#32) = .ok (.setRotation ⟨.black, .deg90, 0#8⟩) ∧
  decode (.request 0x00000613#32) = .ok (.setRotation ⟨.black, .deg270, 0#8⟩) ∧
  decode (.request 0x00000018#32) = .ok (.fbFill ⟨.black, .deg0, 0#8⟩) ∧
  decode (.request 0x00010008#32) = .ok (.loadLuts ⟨.black, .deg0, 1#8⟩) ∧
  decode (.request 0x00000005#32) = .ok (.updatePartial ⟨.black, .deg0, 0#8⟩) ∧
  decode (.command 0x04#8) = .ok .powerOn ∧
  decode (.command 0x07#8) = .ok .deepSleep ∧
  decode (.command 0xF8#8) = .ok .powerOptimization

/-- What a well-formed assembler line does: its ARG writes and its REQ0 write, one step each, run the request the line
names, with its COLOR, ROTF or LUTSEL field, every operand standing in the field of its ARG register that 30_encoding.md
R95 gives it and every other ARG register as it was, and then WAIT_DONE comes (R102). The request word decodes to the
request and is well formed, and packed operands read back as written (R95, R96). That the host's actions stand in `todo`
is the model's choice (log 1). -/
def Obligations.AssembledLinesDecodeAndReadBack : Prop :=
  (∀ l : Line, decode (.request (reqWordOf l.instr)) = .ok l.instr ∧ WellFormed l.instr = true) ∧
  (∀ lo hi : Int, fitsSigned lo = true → fitsSigned hi = true →
    (lowHalf (packHalves lo hi)).toInt = lo ∧ (highHalf (packHalves lo hi)).toInt = hi) ∧
  (∀ lo hi : Nat, fitsUnsigned 16 lo = true → fitsUnsigned 16 hi = true →
    (lowHalf (packHalves lo hi)).toNat = lo ∧ (highHalf (packHalves lo hi)).toNat = hi) ∧
  (∀ (l : Line) (s : State) (rest : List HostAction), l.wellFormed = true → s.todo = assemble l ++ rest →
    Expected.lineRequest l l.instr ∧
    ∃ u, Expected.lineOperands l s u ∧
      u = { s with
        arg0 := u.arg0, arg1 := u.arg1, arg2 := u.arg2, req0 := reqWordOf l.instr, todo := .waitDone :: rest } ∧
      steps (l.argWrites.length + 1) s = exec l.instr u)

/-! ## A step runs the decoded instruction -/

/-- A host write is the next move where it heads the host's actions, and a write of REQ0 whose word decodes runs that
request, REQ0 holding the word and the host's action being over (60_exceptions.md R258, 10_state.md R24). That the host's
actions stand in `todo` is the model's choice (log 1). -/
def Obligations.HostWriteRunsDecodedRequest : Prop :=
  (∀ (s : State) (off : BitVec 5) (v : Word) (rest : List HostAction),
    s.todo = .write off v :: rest → step s = hostWrite off v { s with todo := rest }) ∧
  ∀ (s : State) (w : Word) (rest : List HostAction) (i : Instr),
    s.todo = .write 0x00#5 w :: rest → decode (.request w) = .ok i →
    step s = exec i { s with todo := rest, req0 := w }

/-- A CMD micro-op at the head of SEQ runs the wire command its byte decodes to, the micro-op being off SEQ and upc
advanced (41_sequencer.md R177): when the host has nothing to do, lets the block run, or polls STATUS. That the
micro-op is taken off before the command runs, and how the host waits, are the model's choices (log 10, log 12). -/
def Obligations.SequencerRunsDecodedCommand : Prop :=
  ∀ (s : State) (b : Byte) (ops : List MicroOp) (i : Instr),
    s.seq = .cmd b :: ops → decode (.command b) = .ok i →
    (s.todo = [] → step s = exec i { s with seq := ops, upc := s.upc + 1 }) ∧
    (∀ rest, s.todo = .pass :: rest → step s = exec i { s with todo := rest, seq := ops, upc := s.upc + 1 }) ∧
    (∀ rest, s.todo = .waitDone :: rest → s.busy = true →
      step s = exec i { s with hostData := statusWord s, seq := ops, upc := s.upc + 1 })

/-- What the other host actions do, and the idle block: a read returns the register at its offset and changes nothing
else; the poll loop ends at BUSY = 0; with no action and no request in flight nothing happens (20_memory.md R60, R71,
30_encoding.md R103). The forms of the actions are the model's choices (log 1, log 11, log 12, log 13). -/
def Obligations.ReadsAndIdleStepsChangeNothingElse : Prop :=
  (∀ (s : State) (rest : List HostAction) (off : BitVec 5), s.todo = .read off :: rest →
    step s = .next { s with todo := rest, hostData := readReg off s }) ∧
  (∀ (s : State) (rest : List HostAction), s.todo = .waitDone :: rest → s.busy = false →
    step s = .next { s with todo := rest, hostData := statusWord s }) ∧
  (∀ s : State, s.todo = [] → s.seq = [] → step s = .next s)

/-! ## Refusals -/

/-- 60_exceptions.md R256: a write of REQ0 while BUSY = 1 is recorded and nothing else happens, whatever the word: REQ0
reads back the word, the request in flight and LAST_ERR are as they were. -/
def Obligations.RequestWhileBusyIsOnlyRecorded : Prop :=
  ∀ (s : State) (w : Word), s.busy = true →
    hostWrite 0x00#5 w s = .next { s with req0 := w, overrun := true, stickyFault := true }

/-- 60_exceptions.md R253: a reserved operation code or a reserved field that is not zero, in any MODE, is recorded
as IllegalRequest and nothing else happens. -/
def Obligations.IllegalRequestIsOnlyRecorded : Prop :=
  ∀ (s : State) (w : Word), s.busy = false →
    (w.extractLsb' 11 5 ≠ 0#5 ∨ w.extractLsb' 24 8 ≠ 0#8 ∨ (w.extractLsb' 0 8).toNat = 0 ∨
      (0x0A ≤ (w.extractLsb' 0 8).toNat ∧ (w.extractLsb' 0 8).toNat ≤ 0x0F) ∨ 0x1A ≤ (w.extractLsb' 0 8).toNat) →
    hostWrite 0x00#5 w s = .next { s with req0 := w, lastErr := .illegalRequest, stickyFault := true }

/-- 60_exceptions.md R254: a wire request in a MODE its row of 42_lifecycle.md R190 does not list is recorded as
ModeFault and nothing else happens, whatever its operands. -/
def Obligations.ModeFaultIsOnlyRecorded : Prop :=
  ∀ (f : ReqFields) (s : State), s.busy = false →
    ∀ row ∈ Expected.acceptedModes f, s.mode ∉ row.2 →
      exec row.1 s = .next { s with lastErr := .modeFault, stickyFault := true }

/-- 60_exceptions.md R255: FB_READ, FB_WRITE and RBUF_WRITE with ARG0[15:0] over 5807, and UPDATE_PARTIAL with
ARG2[15:0] over 5808 in the mode that accepts it, are recorded as BufferIndexFault and nothing else happens. -/
def Obligations.BufferIndexFaultIsOnlyRecorded : Prop :=
  ∀ (f : ReqFields) (s : State), s.busy = false →
    (5808 ≤ (s.arg0.extractLsb' 0 16).toNat →
      ∀ i ∈ [Instr.fbRead f, Instr.fbWrite f, Instr.rbufWrite f],
        exec i s = .next { s with lastErr := .bufferIndexFault, stickyFault := true }) ∧
    (s.mode = .active → 5808 < (s.arg2.extractLsb' 0 16).toNat →
      exec (.updatePartial f) s = .next { s with lastErr := .bufferIndexFault, stickyFault := true })

/-! ## Local requests -/

/-- 40_framebuffer.md R142, R137: SET_BG writes BG and SET_ROTATION writes ROT, in every MODE, and nothing else but
the error code and the latched operands.
Which operands are latched is read by inference (log 7). -/
def Obligations.SetRequestsWriteOneRegister : Prop :=
  ∀ (f : ReqFields) (s : State), s.busy = false →
    exec (.setBg f) s = .next { s with
      bg := f.color, lastErr := .none, lat := { s.lat with op := 0x10#8, color := f.color, rot := f.rotf } } ∧
    exec (.setRotation f) s = .next { s with
      rot := f.rotf, lastErr := .none, lat := { s.lat with op := 0x13#8, color := f.color, rot := f.rotf } }

/-- 40_framebuffer.md R143, R144, R138: GET_BG, GET_SIZE and GET_ROTATION write RESULT, in every MODE, and nothing
else but the error code and the latched operands.
Which operands are latched is read by inference (log 7). -/
def Obligations.GetRequestsWriteResult : Prop :=
  ∀ (f : ReqFields) (s : State), s.busy = false →
    exec (.getBg f) s = .next { s with
      result := (match s.bg with | .black => 0#32 | .white => 1#32)
      lastErr := .none, lat := { s.lat with op := 0x11#8, color := f.color, rot := f.rotf } } ∧
    exec (.getSize f) s = .next { s with
      result := 0x00B00108#32
      lastErr := .none, lat := { s.lat with op := 0x12#8, color := f.color, rot := f.rotf } } ∧
    exec (.getRotation f) s = .next { s with
      result := (match s.rot with | .deg0 => 0#32 | .deg90 => 1#32 | .deg180 => 2#32 | .deg270 => 3#32)
      lastErr := .none, lat := { s.lat with op := 0x14#8, color := f.color, rot := f.rotf } }

/-- 40_framebuffer.md R139: FB_READ of an index that exists writes the byte, zero-extended, to RESULT.
Which operands are latched is read by inference (log 7). -/
def Obligations.FbReadReturnsTheByte : Prop :=
  ∀ (f : ReqFields) (s : State) (i : Nat), s.busy = false → (s.arg0.extractLsb' 0 16).toNat = i → i < 5808 →
    ∃ t, exec (.fbRead f) s = .next t ∧ t.result.toNat = (fbByte s i).toNat ∧
      t = { s with
        result := t.result, lastErr := .none
        lat := { s.lat with op := 0x16#8, color := f.color, rot := f.rotf,
                            idx := s.arg0.extractLsb' 0 16, val := s.arg1.extractLsb' 0 8 } }

/-- 40_framebuffer.md R140: FB_WRITE of an index that exists writes that byte of FB and no other.
Which operands are latched is read by inference (log 7). -/
def Obligations.FbWriteWritesOneByte : Prop :=
  ∀ (f : ReqFields) (s : State) (i : Nat), s.busy = false → (s.arg0.extractLsb' 0 16).toNat = i → i < 5808 →
    ∃ t, exec (.fbWrite f) s = .next t ∧ fbByte t i = s.arg1.extractLsb' 0 8 ∧
      (∀ j, j ≠ i → fbByte t j = fbByte s j) ∧
      t = { s with
        fb := t.fb, lastErr := .none
        lat := { s.lat with op := 0x17#8, color := f.color, rot := f.rotf,
                            idx := s.arg0.extractLsb' 0 16, val := s.arg1.extractLsb' 0 8 } }

/-- 40_framebuffer.md R145: RBUF_WRITE of an index that exists writes that byte of RBUF and no other; FB and every
other RBUF byte, written before or not, read as before.
Which operands are latched is read by inference (log 7). -/
def Obligations.RbufWriteWritesOneByte : Prop :=
  ∀ (f : ReqFields) (s : State) (i : Nat), s.busy = false → (s.arg0.extractLsb' 0 16).toNat = i → i < 5808 →
    ∃ t, exec (.rbufWrite f) s = .next t ∧ rbufByte t i = s.arg1.extractLsb' 0 8 ∧
      (∀ j, j ≠ i → rbufByte t j = rbufByte s j) ∧
      t = { s with
        rbuf := t.rbuf, lastErr := .none
        lat := { s.lat with op := 0x19#8, color := f.color, rot := f.rotf,
                            idx := s.arg0.extractLsb' 0 16, val := s.arg1.extractLsb' 0 8 } }

/-- 40_framebuffer.md R141, R131: FB_FILL makes every byte of FB 0xFF (White) or 0x00 (Black) and changes nothing else
but the error code and the latched operands.
Which operands are latched is read by inference (log 7). -/
def Obligations.FbFillFillsEveryByte : Prop :=
  ∀ (f : ReqFields) (s : State), s.busy = false →
    ∃ t, exec (.fbFill f) s = .next t ∧
      (∀ i, i < 5808 → fbByte t i = match f.color with | .white => 0xFF#8 | .black => 0x00#8) ∧
      t = { s with
        fb := t.fb, lastErr := .none, lat := { s.lat with op := 0x18#8, color := f.color, rot := f.rotf } }

/-- 40_framebuffer.md R135, 20_memory.md R66: DRAW_PIXEL inside the logical area gives the one physical pixel its
coordinate translates to the colour; every other pixel of the panel, every other byte and every other piece of state
but the error code and the latched operands are unchanged. The four translations are the spec's decision D12
(log 16).
Which operands are latched is read by inference (log 7). -/
def Obligations.DrawPixelWritesExactlyOnePixel : Prop :=
  ∀ (f : ReqFields) (s : State) (x y : Nat), s.busy = false →
    (s.arg0.extractLsb' 0 16).toInt = x → (s.arg0.extractLsb' 16 16).toInt = y →
    x < (logicalSize s.rot).1 → y < (logicalSize s.rot).2 →
    ∃ t, exec (.drawPixel f) s = .next t ∧
      (∀ px py, px < 264 → py < 176 →
        pixelAt t (px, py) = if (px, py) = xlate s.rot x y then decide (f.color = .white) else pixelAt s (px, py)) ∧
      (∀ j, j ≠ pixelIndex (xlate s.rot x y) → fbByte t j = fbByte s j) ∧
      t = { s with
        fb := t.fb, lastErr := .none
        lat := { s.lat with op := 0x15#8, color := f.color, rot := f.rotf,
                            x := s.arg0.extractLsb' 0 16, y := s.arg0.extractLsb' 16 16 } }

/-- 40_framebuffer.md R136, 20_memory.md R75, R78: DRAW_PIXEL with a negative coordinate, or one at or over the width or
height of the current orientation, is accepted and leaves FB as it was.
Which operands are latched is read by inference (log 7). -/
def Obligations.DrawPixelOutOfBoundsIsIgnored : Prop :=
  ∀ (f : ReqFields) (s : State) (x y : Int), s.busy = false →
    (s.arg0.extractLsb' 0 16).toInt = x → (s.arg0.extractLsb' 16 16).toInt = y →
    (x < 0 ∨ y < 0 ∨ (match s.rot with
      | .deg0 => 264 ≤ x ∨ 176 ≤ y
      | .deg90 => 176 ≤ x ∨ 264 ≤ y
      | .deg180 => 264 ≤ x ∨ 176 ≤ y
      | .deg270 => 176 ≤ x ∨ 264 ≤ y)) →
    exec (.drawPixel f) s = .next { s with
      lastErr := .none
      lat := { s.lat with op := 0x15#8, color := f.color, rot := f.rotf,
                          x := s.arg0.extractLsb' 0 16, y := s.arg0.extractLsb' 16 16 } }

/-! ## Acceptance of the wire requests -/

/-- 42_lifecycle.md R191, R192, R193: INIT and WAKE, each in the modes that accept it, start the same initialisation
micro-sequence, ending in MODE = Active; nothing is emitted and nothing else changes. The command bytes are the spec's
decision D3 (log 16), the open payload bytes stand by their names (log 3).
Which operands are latched is read by inference (log 7). -/
def Obligations.InitAndWakeStartTheInitSequence : Prop :=
  ∀ (f : ReqFields) (s : State), s.busy = false →
    (s.mode = .uninitialized ∨ s.mode = .indeterminate →
      exec (.init f) s = .next { s with
        seq := Expected.initOps ++ [.finish (some .active)], upc := 0, busy := true, lastErr := .none
        lat := { s.lat with op := 0x01#8, color := f.color, rot := f.rotf } }) ∧
    (s.mode = .sleeping ∨ s.mode = .indeterminate →
      exec (.wake f) s = .next { s with
        seq := Expected.initOps ++ [.finish (some .active)], upc := 0, busy := true, lastErr := .none
        lat := { s.lat with op := 0x02#8, color := f.color, rot := f.rotf } })

/-- 42_lifecycle.md R194, R195: SLEEP in Active starts its micro-sequence, with no WAIT in it, ending in MODE = Sleeping.
The command bytes are the spec's decision D3 (log 16).
Which operands are latched is read by inference (log 7). -/
def Obligations.SleepStartsItsSequence : Prop :=
  ∀ (f : ReqFields) (s : State), s.busy = false → s.mode = .active →
    exec (.sleep f) s = .next { s with
      seq := [.cmd 0x50#8, .data Config.pCdi, .cmd 0x02#8, .cmd 0x07#8, .data 0xA5#8, .finish (some .sleeping)]
      upc := 0, busy := true, lastErr := .none
      lat := { s.lat with op := 0x03#8, color := f.color, rot := f.rotf } }

/-- 42_lifecycle.md R196, R197: LOAD_LUTS in Active starts the LUT micro-sequence, the same for every LUTSEL, and leaves
MODE unchanged at its end. The command bytes are the spec's decision D3 (log 16).
Which operands are latched is read by inference (log 7). -/
def Obligations.LoadLutsStartsTheLutSequence : Prop :=
  ∀ (f : ReqFields) (s : State), s.busy = false → s.mode = .active →
    exec (.loadLuts f) s = .next { s with
      seq := Expected.lutOps ++ [.finish none], upc := 0, busy := true, lastErr := .none
      lat := { s.lat with op := 0x08#8, color := f.color, rot := f.rotf } }

/-- 43_frame_transfer.md R221, R222: UPDATE_FULL in Active starts the transfer of the complement of every FB byte in
ascending order; ROT plays no part and FB is unchanged. The command bytes are the spec's decision D3 (log 16).
Which operands are latched is read by inference (log 7). -/
def Obligations.UpdateFullStartsTheFrameTransfer : Prop :=
  ∀ (f : ReqFields) (s : State), s.busy = false → s.mode = .active →
    exec (.updateFull f) s = .next { s with
      seq := [.cmd 0x13#8] ++ (List.range 5808).map (fun j => MicroOp.data (~~~(fbByte s j))) ++ [.cmd 0x11#8, .finish none]
      upc := 0, busy := true, lastErr := .none
      lat := { s.lat with op := 0x04#8, color := f.color, rot := f.rotf } }

/-- 43_frame_transfer.md R225, R226, R227: UPDATE_PARTIAL in Active with LEN up to 5808 sends the command, the eight
address bytes (the low three bits of x and width cleared), waits, then sends RBUF[0] to RBUF[LEN-1] complemented. A byte
of RBUF never written is a free value (log 4). The command bytes are the spec's decision D3 (log 16).
Which operands are latched is read by inference (log 7). -/
def Obligations.UpdatePartialStartsTheRegionTransfer : Prop :=
  ∀ (f : ReqFields) (s : State), s.busy = false → s.mode = .active → (s.arg2.extractLsb' 0 16).toNat ≤ 5808 →
    exec (.updatePartial f) s = .next { s with
      seq := [.cmd 0x14#8,
              .data (s.arg0.extractLsb' 8 8), .data (s.arg0.extractLsb' 0 8 &&& 0xF8#8),
              .data (s.arg0.extractLsb' 24 8), .data (s.arg0.extractLsb' 16 8),
              .data (s.arg1.extractLsb' 8 8), .data (s.arg1.extractLsb' 0 8 &&& 0xF8#8),
              .data (s.arg1.extractLsb' 24 8), .data (s.arg1.extractLsb' 16 8), .wait] ++
             (List.range (s.arg2.extractLsb' 0 16).toNat).map (fun j => MicroOp.data (~~~(rbufByte s j))) ++
             [.cmd 0x11#8, .finish none]
      upc := 0, busy := true, lastErr := .none
      lat := { s.lat with op := 0x05#8, color := f.color, rot := f.rotf,
                          x := s.arg0.extractLsb' 0 16, y := s.arg0.extractLsb' 16 16,
                          w := s.arg1.extractLsb' 0 16, h := s.arg1.extractLsb' 16 16,
                          len := s.arg2.extractLsb' 0 16 } }

/-- 43_frame_transfer.md R229, R230: DISPLAY in Active refreshes and waits; UPDATE_AND_DISPLAY is the frame transfer, then
the refresh and its wait, as one request. The command bytes are the spec's decision D3 (log 16).
Which operands are latched is read by inference (log 7). -/
def Obligations.DisplayRequestsStartTheRefresh : Prop :=
  ∀ (f : ReqFields) (s : State), s.busy = false → s.mode = .active →
    exec (.display f) s = .next { s with
      seq := [.cmd 0x12#8, .wait, .finish none], upc := 0, busy := true, lastErr := .none
      lat := { s.lat with op := 0x06#8, color := f.color, rot := f.rotf } } ∧
    exec (.updateAndDisplay f) s = .next { s with
      seq := [.cmd 0x13#8] ++ (List.range 5808).map (fun j => MicroOp.data (~~~(fbByte s j))) ++
             [.cmd 0x11#8, .cmd 0x12#8, .wait, .finish none]
      upc := 0, busy := true, lastErr := .none
      lat := { s.lat with op := 0x07#8, color := f.color, rot := f.rotf } }

/-- 43_frame_transfer.md R231: CLEAR_FRAME in Active sends 5808 bytes of the background colour, 0x00 for White and 0xFF
for Black, whatever FB holds, and issues no refresh. The command bytes are the spec's decision D3 (log 16).
Which operands are latched is read by inference (log 7). -/
def Obligations.ClearFrameSendsTheBackground : Prop :=
  ∀ (f : ReqFields) (s : State), s.busy = false → s.mode = .active →
    exec (.clearFrame f) s = .next { s with
      seq := [.cmd 0x13#8] ++
             List.replicate 5808 (MicroOp.data (match s.bg with | .white => 0x00#8 | .black => 0xFF#8)) ++
             [.cmd 0x11#8, .finish none]
      upc := 0, busy := true, lastErr := .none
      lat := { s.lat with op := 0x09#8, color := f.color, rot := f.rotf } }

/-! ## Wire commands and micro-ops -/

/-- 41_sequencer.md R162, R169: each wire command whose transmission is delivered emits `Cmd` of its own byte and changes
nothing else but the answers taken; one whose transmission fails aborts the request. That no micro-sequence holds
DATA_START_TRANSMISSION_1 is another statement (log 8); the bytes are the spec's decision D3 (log 16); the answer stands
in `env` or is free (log 2). -/
def Obligations.WireCommandsEmitOrAbort : Prop :=
  ∀ (s : State), ∀ row ∈ Expected.commandBytes,
    ((answerAt s 0).txOk = true →
      exec row.1 s = .next { s with
        trace := s.trace ++ [.cmd row.2], env := s.env.tail, draws := s.draws + 1 }) ∧
    ((answerAt s 0).txOk = false →
      exec row.1 s = .next { s with
        trace := s.trace ++ [.txFail .cmd row.2], lastErr := .transportError, stickyTx := true, mode := .indeterminate
        seq := [], upc := 0, busy := false, waiting := false, env := s.env.tail, draws := s.draws + 1 })

/-- 41_sequencer.md R163, R169: a DATA micro-op emits `Data(b)` and is removed, or, if its transmission fails, aborts the
request: when the host has nothing to do, lets the block run, or polls STATUS. The answer stands in `env` or is free
(log 2); how the host waits is the model's choice (log 12). -/
def Obligations.DataStepEmitsOrAborts : Prop :=
  ∀ (s : State) (b : Byte) (ops : List MicroOp), s.seq = .data b :: ops →
    ((answerAt s 0).txOk = true → Expected.sequencerTurn s fun u => { u with
      seq := ops, upc := u.upc + 1, trace := u.trace ++ [.data b], env := u.env.tail, draws := u.draws + 1 }) ∧
    ((answerAt s 0).txOk = false → Expected.sequencerTurn s fun u => { u with
      trace := u.trace ++ [.txFail .data b], lastErr := .transportError, stickyTx := true, mode := .indeterminate
      seq := [], upc := 0, busy := false, waiting := false, env := u.env.tail, draws := u.draws + 1 })

/-- 41_sequencer.md R165, R166: a WAIT that samples the busy level 0 stays with WAITING = 1 and emits nothing; one that
samples the idle level 1 emits `Wait`, is removed and leaves WAITING = 0: when the host has nothing to do, lets the block
run, or polls STATUS. The sample stands in `env` or is free (log 2); how the host waits is the model's choice (log 12). -/
def Obligations.WaitStepPollsOrReturns : Prop :=
  ∀ (s : State) (ops : List MicroOp), s.seq = .wait :: ops →
    ((answerAt s 0).line = 0#1 → Expected.sequencerTurn s fun u => { u with
      waiting := true, env := u.env.tail, draws := u.draws + 1 }) ∧
    ((answerAt s 0).line = 1#1 → Expected.sequencerTurn s fun u => { u with
      waiting := false, seq := ops, upc := u.upc + 1, trace := u.trace ++ [.wait]
      env := u.env.tail, draws := u.draws + 1 })

/-- 41_sequencer.md R167, R168: RESET(n, d) emits its event and never fails; DONE(m) writes MODE if m is a mode and ends
the request with the error code as it was: when the host has nothing to do, lets the block run, or polls STATUS. Neither
takes an answer of the environment. How the host waits is the model's choice (log 12). -/
def Obligations.ResetAndDoneSteps : Prop :=
  (∀ (s : State) (n d : Nat) (ops : List MicroOp), s.seq = .reset n d :: ops →
    Expected.sequencerTurn s fun u => { u with
      seq := ops, upc := u.upc + 1, trace := u.trace ++ [.reset n d] }) ∧
  (∀ (s : State) (m : Option Mode) (ops : List MicroOp), s.seq = .finish m :: ops →
    Expected.sequencerTurn s fun u => { u with
      mode := (match m with | none => u.mode | some m => m), seq := [], upc := 0, busy := false, waiting := false })

/-! ## Runs of a request -/

/-- A request in flight whose bytes are all delivered, and each of whose waits samples the busy level any finite number of
times and then the idle level, runs to its DONE in one step per answer taken, one per RESET and one for the DONE: it
appends exactly the events of its micro-sequence to the trace, in order, however long the waits polled, and leaves the
framebuffer, the region buffer, the host registers, the background and the orientation as they were (20_memory.md R80,
41_sequencer.md R166, R168, R177, 70_reset_and_hazards.md R301). The host has nothing to do, or polls STATUS and then
holds some STATUS word it read (log 1, log 12). The answers stand in `env` or are free (log 2). -/
def Obligations.CompletedRequestEmitsItsMicroSequence : Prop :=
  ∀ (s : State) (ops : List MicroOp) (m : Option Mode) (k : Nat),
    SequencerRuns s → s.seq = ops ++ [.finish m] →
    (∀ b, MicroOp.cmd b ∈ ops → ∃ i, decode (.command b) = .ok i) →
    Delivered (answerAt s) 0 ops k →
    ∃ t, steps (k + resetCount ops + 1) s = .next t ∧ (s.todo = [] → t.hostData = s.hostData) ∧
      t = { s with
        trace := s.trace ++ successEvents ops, mode := m.getD s.mode, seq := [], upc := 0, busy := false
        waiting := false, env := s.env.drop k, draws := s.draws + k, hostData := t.hostData }

/-- A request in flight one of whose transmissions fails, the waits before it having polled any finite number of times:
every event before it is in the trace, then the failed byte as `TxFail`, and nothing after it is sent; MODE is
Indeterminate, LAST_ERR is TransportError and the block is idle (60_exceptions.md R260, 41_sequencer.md R169). The host
has nothing to do, or polls STATUS and then holds some STATUS word it read (log 1, log 12). The answers stand in `env` or
are free (log 2). -/
def Obligations.FailedTransmissionEndsTheRequest : Prop :=
  ∀ (s : State) (before after : List MicroOp) (kind : TxKind) (b : Byte) (k : Nat),
    SequencerRuns s →
    s.seq = before ++ (match kind with | .cmd => MicroOp.cmd b | .data => MicroOp.data b) :: after →
    (∀ c, MicroOp.cmd c ∈ s.seq → ∃ i, decode (.command c) = .ok i) →
    Delivered (answerAt s) 0 before k → (answerAt s k).txOk = false →
    ∃ t, steps (k + resetCount before + 1) s = .next t ∧ (s.todo = [] → t.hostData = s.hostData) ∧
      t = { s with
        trace := s.trace ++ successEvents before ++ [.txFail kind b], mode := .indeterminate
        lastErr := .transportError, stickyTx := true, seq := [], upc := 0, busy := false, waiting := false
        env := s.env.drop (k + 1), draws := s.draws + (k + 1), hostData := t.hostData }

/-- A wait whose every sample is busy never returns: after any number of steps the WAIT still heads SEQ, nothing was
emitted and WAITING is 1 (41_sequencer.md R174), whether the host has nothing to do or polls STATUS, then holding some
STATUS word it read (log 1, log 12). The samples stand in `env` or are free (log 2). -/
def Obligations.BusyLineHoldsTheWait : Prop :=
  ∀ (k : Nat) (s : State) (ops : List MicroOp), SequencerRuns s → s.seq = .wait :: ops →
    (∀ n, n ≤ k → (answerAt s n).line = 0#1) →
    ∃ t, steps (k + 1) s = .next t ∧ (s.todo = [] → t.hostData = s.hostData) ∧
      t = { s with
        waiting := true, env := s.env.drop (k + 1), draws := s.draws + (k + 1), hostData := t.hostData }

/-- From the host's write of a SLEEP request in Active to its completion, with every byte delivered: exactly five events,
no wait among them, and MODE = Sleeping; the busy line plays no part (42_lifecycle.md R195). After the write the host has
nothing to do, or waits with WAIT_DONE as an assembled line does (log 1, log 12). The answers stand in `env` or are free
(log 2). The command bytes are the spec's decision D3 (log 16). -/
def Obligations.SleepRunEmitsFiveEvents : Prop :=
  ∀ (f : ReqFields) (s : State) (rest : List HostAction), s.busy = false → s.mode = .active →
    s.todo = .write 0x00#5 (requestWord 0x03#8 f) :: rest → (rest = [] ∨ ∃ more, rest = .waitDone :: more) →
    (∀ n, n < 5 → (answerAt s n).txOk = true) →
    ∃ t, steps 7 s = .next t ∧
      t.trace = s.trace ++ [.cmd 0x50#8, .data Config.pCdi, .cmd 0x02#8, .cmd 0x07#8, .data 0xA5#8] ∧
      t.mode = .sleeping ∧ t.busy = false ∧ t.waiting = false ∧ t.lastErr = .none ∧ t.seq = [] ∧ t.todo = rest

/-- How many events a completed INIT, WAKE or LOAD_LUTS emits, and how many of them are waits (42_lifecycle.md R192, R193,
R197; the counts are the spec's own inference from R191 and R196). -/
def Obligations.LifecycleEventCounts : Prop :=
  ∀ (f : ReqFields) (s t : State), s.busy = false →
    (((s.mode = .uninitialized ∨ s.mode = .indeterminate) ∧ exec (.init f) s = .next t) ∨
      ((s.mode = .sleeping ∨ s.mode = .indeterminate) ∧ exec (.wake f) s = .next t) →
      (successEvents t.seq).length = 48 + (Config.lutVcom.length + Config.lutWw.length + Config.lutBw.length +
        Config.lutWb.length + Config.lutBb.length) ∧
      (successEvents t.seq).count .wait = 2) ∧
    (s.mode = .active → exec (.loadLuts f) s = .next t →
      (successEvents t.seq).length = 6 + (Config.lutVcom.length + Config.lutWw.length + Config.lutBw.length +
        Config.lutWb.length + Config.lutBb.length) ∧
      (successEvents t.seq).count .wait = 1)

/-- The events of a completed UPDATE_FULL: the start command, then 5808 data bytes, the j-th the complement of FB[j], then
the stop command; of UPDATE_AND_DISPLAY the same, then the refresh and one wait (43_frame_transfer.md R223, R230). The
command bytes are the spec's decision D3 (log 16). -/
def Obligations.FrameTransferEvents : Prop :=
  ∀ (f : ReqFields) (s t : State), s.busy = false → s.mode = .active →
    (exec (.updateFull f) s = .next t →
      ∃ events : List WireEvent, successEvents t.seq = WireEvent.cmd 0x13#8 :: (events ++ [WireEvent.cmd 0x11#8]) ∧
        events.length = 5808 ∧ ∀ j, j < 5808 → events[j]? = some (WireEvent.data (~~~(fbByte s j)))) ∧
    (exec (.updateAndDisplay f) s = .next t →
      ∃ events : List WireEvent, successEvents t.seq =
          WireEvent.cmd 0x13#8 :: (events ++ [WireEvent.cmd 0x11#8, WireEvent.cmd 0x12#8, WireEvent.wait]) ∧
        events.length = 5808 ∧ ∀ j, j < 5808 → events[j]? = some (WireEvent.data (~~~(fbByte s j))))

/-- A completed UPDATE_PARTIAL emits 11 + LEN events, one of them a wait, after the eighth address byte
(43_frame_transfer.md R228, 70_reset_and_hazards.md R294; the count is the spec's own inference from R225). -/
def Obligations.RegionTransferEventCount : Prop :=
  ∀ (f : ReqFields) (s t : State), s.busy = false → s.mode = .active → (s.arg2.extractLsb' 0 16).toNat ≤ 5808 →
    exec (.updatePartial f) s = .next t →
    (successEvents t.seq).length = 11 + (s.arg2.extractLsb' 0 16).toNat ∧
    (successEvents t.seq).count .wait = 1 ∧ (successEvents t.seq)[9]? = some .wait

/-! ## Invariants and whole-machine rules -/

/-- Every step keeps the invariant of the block: canonical memories, BUSY exactly while SEQ is not empty, WAITING only at
a WAIT, only commands of the table in SEQ and TRACE, error codes with their sticky bits (10_state.md R28, R33, 20_memory.md
R60, 30_encoding.md R101, 41_sequencer.md R161, R173, 60_exceptions.md R250, R264). The canonical form is the model's
(log 4). -/
def Obligations.StepKeepsTheInvariant : Prop :=
  ∀ s t : State, BlockInv s → step s = .next t → BlockInv t

/-- The invariant holds at reset (10_state.md R43). -/
def Obligations.ResetHasTheInvariant : Prop := BlockInv State.reset

/-- A state with the invariant always has a next state: no request, command or micro-op ends in a fault or a refusal
(20_memory.md R78, 60_exceptions.md R258, 41_sequencer.md R174). -/
def Obligations.InvariantStatesNeverStop : Prop :=
  ∀ s : State, BlockInv s → Safe (step s)

/-- The trace only grows, by at most one event a step, until hardware reset empties it (10_state.md R34, R43). -/
def Obligations.TraceOnlyGrows : Prop :=
  ∀ s t : State, step s = .next t →
    (∃ es, t.trace = s.trace ++ es ∧ es.length ≤ 1) ∨ (∃ rest, s.todo = .hardwareReset :: rest ∧ t.trace = [])

/-- MODE is written only by DONE, by the abort of a failed transmission and by hardware reset (10_state.md R29,
60_exceptions.md R264). -/
def Obligations.ModeIsWrittenOnlyAtTheEnd : Prop :=
  ∀ s t : State, step s = .next t → t.mode = s.mode ∨
    (∃ m ops, s.seq = .finish (some m) :: ops ∧ t.mode = m) ∨
    (∃ b ops, (s.seq = .cmd b :: ops ∨ s.seq = .data b :: ops) ∧ (answerAt s 0).txOk = false ∧
      t.mode = .indeterminate) ∨
    (∃ rest, s.todo = .hardwareReset :: rest ∧ t.mode = .uninitialized)

/-- BG is written only by SET_BG and ROT only by SET_ROTATION, and by hardware reset (10_state.md R30, R31). -/
def Obligations.BackgroundAndRotationHaveOneWriter : Prop :=
  ∀ s t : State, step s = .next t →
    (t.bg = s.bg ∨ (∃ w rest f, s.todo = .write 0x00#5 w :: rest ∧ decode (.request w) = .ok (.setBg f) ∧ t.bg = f.color) ∨
      ∃ rest, s.todo = .hardwareReset :: rest) ∧
    (t.rot = s.rot ∨
      (∃ w rest f, s.todo = .write 0x00#5 w :: rest ∧ decode (.request w) = .ok (.setRotation f) ∧ t.rot = f.rotf) ∨
      ∃ rest, s.todo = .hardwareReset :: rest)

/-- STICKY_TX, STICKY_FAULT and OVERRUN are never cleared except by hardware reset (60_exceptions.md R261). -/
def Obligations.StickyBitsStayUntilReset : Prop :=
  ∀ s t : State, step s = .next t → (∀ rest, s.todo ≠ .hardwareReset :: rest) →
    (s.stickyTx = true → t.stickyTx = true) ∧ (s.stickyFault = true → t.stickyFault = true) ∧
    (s.overrun = true → t.overrun = true)

/-- While a request is in flight no step changes FB, RBUF, BG, ROT, RESULT or the latched operands, whatever the host
does short of hardware reset (20_memory.md R70, 70_reset_and_hazards.md R297). -/
def Obligations.RequestInFlightOwnsTheMemories : Prop :=
  ∀ s t : State, s.busy = true → step s = .next t → (∀ rest, s.todo ≠ .hardwareReset :: rest) →
    t.fb = s.fb ∧ t.rbuf = s.rbuf ∧ t.bg = s.bg ∧ t.rot = s.rot ∧ t.result = s.result ∧ t.lat = s.lat

/-- From reset, whatever the host does and whatever the environment answers, every command byte ever sent is one of the
command table, and DATA_START_TRANSMISSION_1 is never sent (30_encoding.md R101). -/
def Obligations.OnlyNamedCommandsAreEverSent : Prop :=
  ∀ (n : Nat) (actions : List HostAction) (answers : List EnvAnswer) (t : State),
    steps n { State.reset with todo := actions, env := answers } = .next t →
    ∀ b, (WireEvent.cmd b ∈ t.trace ∨ WireEvent.txFail .cmd b ∈ t.trace) →
      b ≠ 0x10#8 ∧ ∃ i, decode (.command b) = .ok i

/-! ## Registers and reset -/

/-- The layout of STATUS: its flags, MODE and LAST_ERR at their bits, the reserved bits zero (10_state.md R28,
60_exceptions.md R250). -/
def Obligations.StatusWordLayout : Prop :=
  ∀ s : State,
    (statusWord s).getLsbD 0 = s.busy ∧ (statusWord s).getLsbD 1 = s.waiting ∧
    ((statusWord s).extractLsb' 2 2).toNat =
      (match s.mode with | .uninitialized => 0 | .active => 1 | .sleeping => 2 | .indeterminate => 3) ∧
    ((statusWord s).extractLsb' 4 4).toNat =
      (match s.lastErr with
        | .none => 0 | .transportError => 1 | .illegalRequest => 2 | .modeFault => 3 | .bufferIndexFault => 4) ∧
    (statusWord s).getLsbD 8 = s.stickyTx ∧ (statusWord s).getLsbD 9 = s.stickyFault ∧
    (statusWord s).getLsbD 10 = s.overrun ∧ (statusWord s).extractLsb' 11 21 = 0#21

/-- The host's registers: each offset reads its register, every other offset reads 0; a write of ARG0, ARG1 or ARG2 stores
the word and nothing else; a write of RESULT, STATUS or an unlisted offset is ignored (10_state.md R24, 20_memory.md
R60). -/
def Obligations.HostRegisterMap : Prop :=
  ∀ s : State,
    (readReg 0x00#5 s = s.req0 ∧ readReg 0x04#5 s = s.arg0 ∧ readReg 0x08#5 s = s.arg1 ∧ readReg 0x0C#5 s = s.arg2 ∧
      readReg 0x10#5 s = s.result ∧ readReg 0x14#5 s = statusWord s ∧
      ∀ off : BitVec 5, off ∉ [0x00#5, 0x04#5, 0x08#5, 0x0C#5, 0x10#5, 0x14#5] → readReg off s = 0#32) ∧
    ∀ (off : BitVec 5) (v : Word) (rest : List HostAction), s.todo = .write off v :: rest →
      (off = 0x04#5 → step s = .next { s with todo := rest, arg0 := v }) ∧
      (off = 0x08#5 → step s = .next { s with todo := rest, arg1 := v }) ∧
      (off = 0x0C#5 → step s = .next { s with todo := rest, arg2 := v }) ∧
      (off ∉ [0x00#5, 0x04#5, 0x08#5, 0x0C#5] → step s = .next { s with todo := rest })

/-- Hardware reset, at any time, gives every field of the block its reset value, and RBUF new free bytes (10_state.md R43).
The latched operands' zero is left out: it is the model's choice (log 5), as are the fields that go on (log 14). -/
def Obligations.HardwareResetGivesTheResetState : Prop :=
  ∀ (s : State) (rest : List HostAction), s.todo = .hardwareReset :: rest →
    ∃ t, step s = .next t ∧
      t.mode = .uninitialized ∧ t.bg = .white ∧ t.rot = .deg0 ∧ (∀ i, i < 5808 → fbByte t i = 0xFF#8) ∧
      t.req0 = 0#32 ∧ t.arg0 = 0#32 ∧ t.arg1 = 0#32 ∧ t.arg2 = 0#32 ∧ t.result = 0#32 ∧ statusWord t = 0x00000000#32 ∧
      t.seq = [] ∧ t.upc = 0 ∧ t.trace = [] ∧ (∀ i, rbufByte t i = Config.rbufDraw (s.resets + 1) i) ∧ t.todo = rest

/-! ## Pixels and bytes -/

/-- The four translations of 20_memory.md R76 (decision D12, log 16), each one-to-one from the logical area of its
orientation onto the 264 by 176 pixels of the panel (R75, R76). -/
def Obligations.TranslationIsABijection : Prop :=
  (∀ x y : Nat, xlate .deg0 x y = (x, y) ∧ xlate .deg90 x y = (263 - y, x) ∧
    xlate .deg180 x y = (263 - x, 175 - y) ∧ xlate .deg270 x y = (y, 175 - x)) ∧
  (∀ r : Rotation, logicalSize r = if r = .deg0 ∨ r = .deg180 then (264, 176) else (176, 264)) ∧
  ∀ r : Rotation,
    (∀ x y, x < (logicalSize r).1 → y < (logicalSize r).2 → (xlate r x y).1 < 264 ∧ (xlate r x y).2 < 176) ∧
    (∀ px py, px < 264 → py < 176 →
      ∃ x y, x < (logicalSize r).1 ∧ y < (logicalSize r).2 ∧ xlate r x y = (px, py)) ∧
    (∀ x y x' y', x < (logicalSize r).1 → y < (logicalSize r).2 → x' < (logicalSize r).1 → y' < (logicalSize r).2 →
      xlate r x y = xlate r x' y' → x = x' ∧ y = y')

/-- The map of FB: bit 7 - k of byte i holds the pixel (8*(i mod 33) + k, i / 33), and no pixel is in two places
(20_memory.md R61, R62, R73). -/
def Obligations.FramebufferMap : Prop :=
  (∀ i k, i < 5808 → k < 8 →
    8 * (i % 33) + k < 264 ∧ i / 33 < 176 ∧ pixelIndex (8 * (i % 33) + k, i / 33) = i ∧
    pixelBit (8 * (i % 33) + k, i / 33) = 7 - k) ∧
  (∀ p q : Nat × Nat, p.1 < 264 → q.1 < 264 → pixelIndex p = pixelIndex q → pixelBit p = pixelBit q → p = q)

/-- A DRAW_PIXEL repeated at once changes nothing more (20_memory.md R72). -/
def Obligations.DrawPixelIsIdempotent : Prop :=
  ∀ (f : ReqFields) (s t u : State), exec (.drawPixel f) s = .next t → exec (.drawPixel f) t = .next u → u = t

/-- Drawing every logical pixel of the current orientation white, from any framebuffer, leaves every byte 0xFF, as after
reset (40_framebuffer.md R147, the spec's own inference). -/
def Obligations.DrawingAllWhiteGivesTheResetFrame : Prop :=
  ∀ s : State, s.busy = false →
    ∃ t, drawAll .white (logicalPixels s.rot) s = .next t ∧ (∀ i, i < 5808 → fbByte t i = 0xFF#8) ∧
      (∀ j, 5808 ≤ j → fbByte t j = fbByte s j) ∧ t.rot = s.rot ∧ t.rbuf = s.rbuf ∧ t.trace = s.trace

/-- 30_encoding.md R97: the eight address bytes, each high byte before its low byte, the low three bits of the x and
width low bytes zero. -/
def Obligations.AddressBytesOfAWindow : Prop :=
  ∀ x y w h : Half, (addrBytes x y w h).map BitVec.toNat =
    [x.toNat / 256, x.toNat % 256 / 8 * 8, y.toNat / 256, y.toNat % 256,
     w.toNat / 256, w.toNat % 256 / 8 * 8, h.toNat / 256, h.toNat % 256]

/-- The pseudo-instruction REQ op, arg0, arg1, arg2 writes its three operand words to ARG0, ARG1 and ARG2 and then issues
the write of the arbitrary word op to REQ0, WAIT_DONE coming next (30_encoding.md R103). That the host's actions stand in
`todo` is the model's choice (log 1). -/
def Obligations.RequestPseudoInstructionWritesItsWords : Prop :=
  ∀ (s : State) (op a0 a1 a2 : Word) (rest : List HostAction), s.todo = assembleReq op a0 a1 a2 ++ rest →
    steps 4 s = hostWrite 0x00#5 op { s with arg0 := a0, arg1 := a1, arg2 := a2, todo := .waitDone :: rest }
end

