-- ==== Sys2Proof/Laws/Decode.lean ====
section
/-! SUPPORT. The bits of placed fields, the fields of a request word and of packed operands, and what a table lookup
finds. -/

namespace Sys2Proof

/-! ## Placed fields -/

/-- A bit of a placed field. -/
theorem getLsbD_placeField {n : Nat} (v : BitVec n) (lo i : Nat) :
    (placeField v lo).getLsbD i = (decide (i < 32) && decide (lo ≤ i) && v.getLsbD (i - lo)) := by
  unfold placeField
  by_cases h : i < lo <;> by_cases h2 : i < 32
  all_goals simp [h, h2]
  all_goals omega

/-- A bit of a placed field, by index. -/
theorem getElem_placeField {n : Nat} (v : BitVec n) (lo i : Nat) (h : i < 32) :
    (placeField v lo)[i] = (decide (lo ≤ i) && v.getLsbD (i - lo)) := by
  rw [← BitVec.getLsbD_eq_getElem, getLsbD_placeField]; simp [h]

/-! ## Colours and orientations -/

@[simp] theorem Colour.ofBit_bit (c : Colour) : Colour.ofBit c.bit = c := by cases c <;> rfl

@[simp] theorem Rotation.ofBits_bits (r : Rotation) : Rotation.ofBits r.bits = r := by cases r <;> rfl

@[simp] theorem Colour.bit_ofBit (b : BitVec 1) : (Colour.ofBit b).bit = b := by revert b; decide

@[simp] theorem Rotation.bits_ofBits (b : BitVec 2) : (Rotation.ofBits b).bits = b := by revert b; decide

/-! ## Fields of a request word -/

theorem requestWord_getLsbD (op : Byte) (f : ReqFields) {i : Nat} (h : i < 32) :
    (requestWord op f).getLsbD i = (op.getLsbD i || (decide (8 ≤ i) && f.color.bit.getLsbD (i - 8)) ||
      (decide (9 ≤ i) && f.rotf.bits.getLsbD (i - 9)) || (decide (16 ≤ i) && f.lutsel.getLsbD (i - 16))) := by
  simp only [requestWord, BitVec.getLsbD_or, getLsbD_placeField, h, decide_true, Nat.zero_le, Bool.true_and, Nat.sub_zero]

@[simp] theorem requestWord_op (op : Byte) (f : ReqFields) : (requestWord op f).extractLsb' 0 8 = op := by
  apply BitVec.eq_of_getLsbD_eq
  intro i hi
  have h8 : ¬8 ≤ i := by omega
  have h9 : ¬9 ≤ i := by omega
  have h16 : ¬16 ≤ i := by omega
  rw [BitVec.getLsbD_extractLsb', requestWord_getLsbD _ _ (by omega)]
  simp [hi, h8, h9, h16]

@[simp] theorem requestWord_color (op : Byte) (f : ReqFields) :
    (requestWord op f).extractLsb' 8 1 = f.color.bit := by
  apply BitVec.eq_of_getLsbD_eq
  intro i hi
  interval_cases i
  rw [BitVec.getLsbD_extractLsb', requestWord_getLsbD _ _ (by omega)]
  simp

@[simp] theorem requestWord_rotf (op : Byte) (f : ReqFields) :
    (requestWord op f).extractLsb' 9 2 = f.rotf.bits := by
  apply BitVec.eq_of_getLsbD_eq
  intro i hi
  rw [BitVec.getLsbD_extractLsb', requestWord_getLsbD _ _ (by omega)]
  interval_cases i <;> simp

@[simp] theorem requestWord_lutsel (op : Byte) (f : ReqFields) :
    (requestWord op f).extractLsb' 16 8 = f.lutsel := by
  apply BitVec.eq_of_getLsbD_eq
  intro i hi
  rw [BitVec.getLsbD_extractLsb', requestWord_getLsbD _ _ (by omega)]
  interval_cases i <;> simp

@[simp] theorem requestWord_reserved_low (op : Byte) (f : ReqFields) :
    (requestWord op f).extractLsb' 11 5 = 0#5 := by
  apply BitVec.eq_of_getLsbD_eq
  intro i hi
  rw [BitVec.getLsbD_extractLsb', requestWord_getLsbD _ _ (by omega)]
  interval_cases i <;> simp

@[simp] theorem requestWord_reserved_high (op : Byte) (f : ReqFields) :
    (requestWord op f).extractLsb' 24 8 = 0#8 := by
  apply BitVec.eq_of_getLsbD_eq
  intro i hi
  rw [BitVec.getLsbD_extractLsb', requestWord_getLsbD _ _ (by omega)]
  interval_cases i <;> simp

@[simp] theorem reqFields_requestWord (op : Byte) (f : ReqFields) : reqFields (requestWord op f) = f := by
  simp [reqFields]

/-! ## Table lookup -/

/-- What a lookup finds is a row of the table. -/
theorem mem_of_lookupCode {α : Type} {rows : List (Byte × α)} {b : Byte} {a : α}
    (h : lookupCode rows b = some a) : (b, a) ∈ rows := by
  induction rows with
  | nil => simp [lookupCode] at h
  | cons r rows ih =>
    obtain ⟨c, x⟩ := r
    simp only [lookupCode] at h
    split at h
    · simp_all
    · simp [ih h]

/-- A request word of an operation code in the table decodes to that request. -/
theorem decodeRequest_requestWord {op : Byte} {mk : ReqFields → Instr} (f : ReqFields)
    (h : lookupCode requestTable op = some mk) : decodeRequest (requestWord op f) = .ok (mk f) := by
  simp [decodeRequest, h]

/-- A command byte never decodes to a request. -/
theorem fields_of_decode_command {b : Byte} {i : Instr} (h : decode (.command b) = .ok i) : i.fields = none := by
  simp only [decode, decodeCommand] at h
  split at h
  · next hl =>
    have hm := mem_of_lookupCode hl
    cases h
    simp only [commandTable, List.mem_cons, Prod.mk.injEq, List.not_mem_nil, or_false] at hm
    casesm* _ ∨ _ <;> (obtain ⟨rfl, rfl⟩ := hm; rfl)
  · cases h

/-- A command byte is the OPC value of the command it decodes to. -/
theorem opcode_of_decode_command {b : Byte} {i : Instr} (h : decode (.command b) = .ok i) : opcode i = b := by
  simp only [decode, decodeCommand] at h
  split at h
  · next hl =>
    have hm := mem_of_lookupCode hl
    cases h
    simp only [commandTable, List.mem_cons, Prod.mk.injEq, List.not_mem_nil, or_false] at hm
    casesm* _ ∨ _ <;> (obtain ⟨rfl, rfl⟩ := hm; rfl)
  · cases h

/-- A request word never decodes to a wire command. -/
theorem fields_of_decode_request {w : Word} {i : Instr} (h : decode (.request w) = .ok i) :
    i.fields = some (reqFields w) := by
  simp only [decode, decodeRequest] at h
  split at h
  · cases h
  · split at h
    · next hl =>
      have hm := mem_of_lookupCode hl
      cases h
      simp only [requestTable, List.mem_cons, Prod.mk.injEq, List.not_mem_nil, or_false] at hm
      casesm* _ ∨ _ <;> (obtain ⟨-, rfl⟩ := hm; rfl)
    · cases h

namespace Machine

/-! ## Packed operands -/

@[simp] theorem lowHalf_packHalves (lo hi : Int) : lowHalf (packHalves lo hi) = BitVec.ofInt 16 lo := by
  apply BitVec.eq_of_getLsbD_eq
  intro i h
  have h16 : ¬16 ≤ i := by omega
  have h32 : i < 32 := by omega
  simp only [lowHalf, packHalves, BitVec.getLsbD_extractLsb', BitVec.getLsbD_or, getLsbD_placeField, Nat.zero_add, h,
    h16, h32, Nat.zero_le, Nat.sub_zero, decide_true, decide_false, Bool.true_and, Bool.false_and, Bool.or_false]

@[simp] theorem highHalf_packHalves (lo hi : Int) : highHalf (packHalves lo hi) = BitVec.ofInt 16 hi := by
  apply BitVec.eq_of_getLsbD_eq
  intro i h
  have h32 : 16 + i < 32 := by omega
  have hz : (BitVec.ofInt 16 lo).getLsbD (16 + i) = false := BitVec.getLsbD_of_ge _ _ (by omega)
  simp only [highHalf, packHalves, BitVec.getLsbD_extractLsb', BitVec.getLsbD_or, getLsbD_placeField, Nat.zero_le,
    Nat.sub_zero, hz, h, h32, Nat.le_add_right, Nat.add_sub_cancel_left, decide_true, Bool.true_and, Bool.and_false,
    Bool.false_or]

end Machine

end Sys2Proof
end

