-- ==== Sys2Proof/Laws/Memory.lean ====
section
/-! SUPPORT. The laws of memory: read after write, and every operation keeps the canonical form. -/

namespace Sys2Proof.Machine

/-! ## Reading after an operation -/

@[simp] theorem Memory.find_insert_same (i : Nat) (v : Byte) (m : Memory) :
    Memory.find i (Memory.insert i v m) = some v := by
  induction m with
  | nil => simp [Memory.insert, Memory.find]
  | cons c m ih =>
    obtain ⟨a, b⟩ := c
    simp only [Memory.insert]
    split
    · simp [Memory.find]
    · split
      · simp [Memory.find]
      · have : a ≠ i := by omega
        simp [Memory.find, this, ih]

@[simp] theorem Memory.find_insert_other {i j : Nat} (v : Byte) (m : Memory) (h : j ≠ i) :
    Memory.find j (Memory.insert i v m) = Memory.find j m := by
  induction m with
  | nil => simp [Memory.insert, Memory.find, h.symm]
  | cons c m ih =>
    obtain ⟨a, b⟩ := c
    simp only [Memory.insert]
    split
    · simp [Memory.find, h.symm]
    · split
      · subst i; simp [Memory.find, h.symm]
      · simp [Memory.find, ih]

@[simp] theorem Memory.find_erase_same (i : Nat) (m : Memory) : Memory.find i (Memory.erase i m) = none := by
  induction m with
  | nil => rfl
  | cons c m ih =>
    obtain ⟨a, b⟩ := c
    by_cases h : a = i
    · simpa [Memory.erase, h] using ih
    · have := ih; simp [Memory.erase, h, Memory.find] at this ⊢; exact this

@[simp] theorem Memory.find_erase_other {i j : Nat} (m : Memory) (h : j ≠ i) :
    Memory.find j (Memory.erase i m) = Memory.find j m := by
  induction m with
  | nil => rfl
  | cons c m ih =>
    obtain ⟨a, b⟩ := c
    by_cases ha : a = i
    · subst ha; have := ih; simp [Memory.erase, Memory.find, h.symm] at this ⊢; exact this
    · have := ih; simp [Memory.erase, ha, Memory.find] at this ⊢; rw [this]

/-- Writing where the blank byte is `d` and reading back. -/
theorem Memory.getD_find_write_same (d : Byte) (i : Nat) (v : Byte) (m : Memory) :
    (Memory.find i (Memory.write (some d) i v m)).getD d = v := by
  unfold Memory.write
  split
  · next h => simp_all
  · simp

/-- Writing where no byte is blank and reading back. -/
theorem Memory.find_write_none_same (i : Nat) (v : Byte) (m : Memory) :
    Memory.find i (Memory.write none i v m) = some v := by
  simp [Memory.write]

/-- A write leaves every other index alone. -/
theorem Memory.find_write_other {i j : Nat} (blank : Option Byte) (v : Byte) (m : Memory) (h : j ≠ i) :
    Memory.find j (Memory.write blank i v m) = Memory.find j m := by
  unfold Memory.write
  split <;> simp [h]

theorem Memory.find_map_range' (v : Byte) (i k n : Nat) (h : k ≤ i) (h' : i < k + n) :
    Memory.find i ((List.range' k n).map fun j => (j, v)) = some v := by
  induction n generalizing k with
  | zero => omega
  | succ n ih =>
    by_cases hk : k = i
    · simp [List.range'_succ, Memory.find, hk]
    · simpa [List.range'_succ, Memory.find, hk] using ih (k + 1) (by omega) (by omega)

/-- A filled memory holds the byte everywhere. -/
theorem Memory.getD_find_fill (d v : Byte) {i n : Nat} (h : i < n) :
    (Memory.find i (Memory.fill (some d) n v)).getD d = v := by
  unfold Memory.fill
  split
  · next hb => simp_all [Memory.find]
  · rw [List.range_eq_range', Memory.find_map_range' v i 0 n (by omega) (by omega)]; rfl

/-! ## The canonical form -/

theorem Memory.insert_insert_same (i : Nat) (v : Byte) (m : Memory) :
    Memory.insert i v (Memory.insert i v m) = Memory.insert i v m := by
  induction m with
  | nil => simp [Memory.insert]
  | cons c m ih =>
    obtain ⟨a, b⟩ := c
    by_cases h1 : i < a <;> by_cases h2 : i = a <;> simp [Memory.insert, h1, h2, ih]

/-- A write repeated at once changes nothing more. -/
theorem Memory.write_write_same (blank : Option Byte) (i : Nat) (v : Byte) (m : Memory) :
    Memory.write blank i v (Memory.write blank i v m) = Memory.write blank i v m := by
  unfold Memory.write
  split
  · simp [Memory.erase]
  · exact Memory.insert_insert_same ..

theorem Memory.wfFrom_mono {blank : Option Byte} {n lo lo' : Nat} (h : lo' ≤ lo) :
    ∀ {m : Memory}, Memory.wfFrom blank n lo m = true → Memory.wfFrom blank n lo' m = true
  | [], _ => rfl
  | (a, v) :: m, hw => by
    simp only [Memory.wfFrom, Bool.and_eq_true, decide_eq_true_eq] at hw ⊢
    exact ⟨⟨⟨by omega, hw.1.1.2⟩, hw.1.2⟩, hw.2⟩

theorem Memory.insert_wfFrom {blank : Option Byte} {n i : Nat} {v : Byte} (hi : i < n) (hv : blank ≠ some v) :
    ∀ {lo : Nat} {m : Memory}, lo ≤ i → Memory.wfFrom blank n lo m = true →
      Memory.wfFrom blank n lo (Memory.insert i v m) = true
  | lo, [], hlo, _ => by simp [Memory.insert, Memory.wfFrom, hlo, hi, hv]
  | lo, (a, b) :: m, hlo, hw => by
    simp only [Memory.wfFrom, Bool.and_eq_true, decide_eq_true_eq] at hw
    obtain ⟨⟨⟨h1, h2⟩, h3⟩, h4⟩ := hw
    simp only [Memory.insert]
    split
    · simp only [Memory.wfFrom, Bool.and_eq_true, decide_eq_true_eq]
      exact ⟨⟨⟨hlo, hi⟩, hv⟩, ⟨⟨⟨by omega, h2⟩, h3⟩, h4⟩⟩
    · split
      · next h => subst h; simp [Memory.wfFrom, hlo, hi, hv, h4]
      · simp only [Memory.wfFrom, Bool.and_eq_true, decide_eq_true_eq]
        exact ⟨⟨⟨h1, h2⟩, h3⟩, Memory.insert_wfFrom hi hv (by omega) h4⟩

theorem Memory.erase_wfFrom {blank : Option Byte} {n i : Nat} :
    ∀ {lo : Nat} {m : Memory}, Memory.wfFrom blank n lo m = true →
      Memory.wfFrom blank n lo (Memory.erase i m) = true
  | _, [], _ => rfl
  | lo, (a, b) :: m, hw => by
    simp only [Memory.wfFrom, Bool.and_eq_true, decide_eq_true_eq] at hw
    obtain ⟨⟨⟨h1, h2⟩, h3⟩, h4⟩ := hw
    have ih := Memory.erase_wfFrom (i := i) h4
    by_cases ha : a = i
    · have : Memory.erase i ((a, b) :: m) = Memory.erase i m := by simp [Memory.erase, ha]
      rw [this]; exact Memory.wfFrom_mono (by omega) ih
    · have : Memory.erase i ((a, b) :: m) = (a, b) :: Memory.erase i m := by simp [Memory.erase, ha]
      rw [this]; simp only [Memory.wfFrom, Bool.and_eq_true, decide_eq_true_eq]
      exact ⟨⟨⟨h1, h2⟩, h3⟩, ih⟩

/-- A write inside the memory keeps the canonical form. -/
theorem Memory.write_wf {blank : Option Byte} {n i : Nat} (v : Byte) {m : Memory} (hi : i < n)
    (h : Memory.wf blank n m = true) : Memory.wf blank n (Memory.write blank i v m) = true := by
  unfold Memory.write
  split
  · exact Memory.erase_wfFrom h
  · next hv => exact Memory.insert_wfFrom hi hv (Nat.zero_le i) h

theorem Memory.map_range'_wfFrom {blank : Option Byte} {v : Byte} {n : Nat} (hv : blank ≠ some v) (k j : Nat)
    (h : k + j ≤ n) : Memory.wfFrom blank n k ((List.range' k j).map fun i => (i, v)) = true := by
  induction j generalizing k with
  | zero => rfl
  | succ j ih =>
    simp only [List.range'_succ, List.map_cons, Memory.wfFrom, Bool.and_eq_true, decide_eq_true_eq]
    exact ⟨⟨⟨le_rfl, by omega⟩, hv⟩, ih (k + 1) (by omega)⟩

/-- A filled memory is in canonical form. -/
theorem Memory.fill_wf (blank : Option Byte) (n : Nat) (v : Byte) :
    Memory.wf blank n (Memory.fill blank n v) = true := by
  unfold Memory.fill
  split
  · rfl
  · next hv => rw [List.range_eq_range']; exact Memory.map_range'_wfFrom hv 0 n (by omega)

/-- The memories of the reset state are in canonical form. -/
theorem reset_memories_wf : Memory.wf (some FB_BLANK) FB_BYTES State.reset.fb = true ∧
    Memory.wf none RBUF_SIZE State.reset.rbuf = true := ⟨rfl, rfl⟩

end Sys2Proof.Machine
end

