-- ==== Sys2Proof/Laws/State.lean ====
section
/-! SUPPORT. One lemma per field per named update of the state, true by rfl, so that no later proof unfolds a record
update. -/

namespace Sys2Proof.Machine

/-! ## takeAnswer -/

@[simp] theorem takeAnswer_req0 (s : State) : (takeAnswer s).req0 = s.req0 := rfl
@[simp] theorem takeAnswer_arg0 (s : State) : (takeAnswer s).arg0 = s.arg0 := rfl
@[simp] theorem takeAnswer_arg1 (s : State) : (takeAnswer s).arg1 = s.arg1 := rfl
@[simp] theorem takeAnswer_arg2 (s : State) : (takeAnswer s).arg2 = s.arg2 := rfl
@[simp] theorem takeAnswer_result (s : State) : (takeAnswer s).result = s.result := rfl
@[simp] theorem takeAnswer_busy (s : State) : (takeAnswer s).busy = s.busy := rfl
@[simp] theorem takeAnswer_waiting (s : State) : (takeAnswer s).waiting = s.waiting := rfl
@[simp] theorem takeAnswer_mode (s : State) : (takeAnswer s).mode = s.mode := rfl
@[simp] theorem takeAnswer_lastErr (s : State) : (takeAnswer s).lastErr = s.lastErr := rfl
@[simp] theorem takeAnswer_stickyTx (s : State) : (takeAnswer s).stickyTx = s.stickyTx := rfl
@[simp] theorem takeAnswer_stickyFault (s : State) : (takeAnswer s).stickyFault = s.stickyFault := rfl
@[simp] theorem takeAnswer_overrun (s : State) : (takeAnswer s).overrun = s.overrun := rfl
@[simp] theorem takeAnswer_bg (s : State) : (takeAnswer s).bg = s.bg := rfl
@[simp] theorem takeAnswer_rot (s : State) : (takeAnswer s).rot = s.rot := rfl
@[simp] theorem takeAnswer_lat (s : State) : (takeAnswer s).lat = s.lat := rfl
@[simp] theorem takeAnswer_seq (s : State) : (takeAnswer s).seq = s.seq := rfl
@[simp] theorem takeAnswer_upc (s : State) : (takeAnswer s).upc = s.upc := rfl
@[simp] theorem takeAnswer_trace (s : State) : (takeAnswer s).trace = s.trace := rfl
@[simp] theorem takeAnswer_fb (s : State) : (takeAnswer s).fb = s.fb := rfl
@[simp] theorem takeAnswer_rbuf (s : State) : (takeAnswer s).rbuf = s.rbuf := rfl
@[simp] theorem takeAnswer_todo (s : State) : (takeAnswer s).todo = s.todo := rfl
@[simp] theorem takeAnswer_hostData (s : State) : (takeAnswer s).hostData = s.hostData := rfl
@[simp] theorem takeAnswer_env (s : State) : (takeAnswer s).env = s.env.tail := rfl
@[simp] theorem takeAnswer_draws (s : State) : (takeAnswer s).draws = s.draws + 1 := rfl
@[simp] theorem takeAnswer_resets (s : State) : (takeAnswer s).resets = s.resets := rfl

/-! ## emit -/

@[simp] theorem emit_req0 (e : WireEvent) (s : State) : (emit e s).req0 = s.req0 := rfl
@[simp] theorem emit_arg0 (e : WireEvent) (s : State) : (emit e s).arg0 = s.arg0 := rfl
@[simp] theorem emit_arg1 (e : WireEvent) (s : State) : (emit e s).arg1 = s.arg1 := rfl
@[simp] theorem emit_arg2 (e : WireEvent) (s : State) : (emit e s).arg2 = s.arg2 := rfl
@[simp] theorem emit_result (e : WireEvent) (s : State) : (emit e s).result = s.result := rfl
@[simp] theorem emit_busy (e : WireEvent) (s : State) : (emit e s).busy = s.busy := rfl
@[simp] theorem emit_waiting (e : WireEvent) (s : State) : (emit e s).waiting = s.waiting := rfl
@[simp] theorem emit_mode (e : WireEvent) (s : State) : (emit e s).mode = s.mode := rfl
@[simp] theorem emit_lastErr (e : WireEvent) (s : State) : (emit e s).lastErr = s.lastErr := rfl
@[simp] theorem emit_stickyTx (e : WireEvent) (s : State) : (emit e s).stickyTx = s.stickyTx := rfl
@[simp] theorem emit_stickyFault (e : WireEvent) (s : State) : (emit e s).stickyFault = s.stickyFault := rfl
@[simp] theorem emit_overrun (e : WireEvent) (s : State) : (emit e s).overrun = s.overrun := rfl
@[simp] theorem emit_bg (e : WireEvent) (s : State) : (emit e s).bg = s.bg := rfl
@[simp] theorem emit_rot (e : WireEvent) (s : State) : (emit e s).rot = s.rot := rfl
@[simp] theorem emit_lat (e : WireEvent) (s : State) : (emit e s).lat = s.lat := rfl
@[simp] theorem emit_seq (e : WireEvent) (s : State) : (emit e s).seq = s.seq := rfl
@[simp] theorem emit_upc (e : WireEvent) (s : State) : (emit e s).upc = s.upc := rfl
@[simp] theorem emit_trace (e : WireEvent) (s : State) : (emit e s).trace = s.trace ++ [e] := rfl
@[simp] theorem emit_fb (e : WireEvent) (s : State) : (emit e s).fb = s.fb := rfl
@[simp] theorem emit_rbuf (e : WireEvent) (s : State) : (emit e s).rbuf = s.rbuf := rfl
@[simp] theorem emit_todo (e : WireEvent) (s : State) : (emit e s).todo = s.todo := rfl
@[simp] theorem emit_hostData (e : WireEvent) (s : State) : (emit e s).hostData = s.hostData := rfl
@[simp] theorem emit_env (e : WireEvent) (s : State) : (emit e s).env = s.env := rfl
@[simp] theorem emit_draws (e : WireEvent) (s : State) : (emit e s).draws = s.draws := rfl
@[simp] theorem emit_resets (e : WireEvent) (s : State) : (emit e s).resets = s.resets := rfl

/-! ## advance -/

@[simp] theorem advance_req0 (rest : List MicroOp) (s : State) : (advance rest s).req0 = s.req0 := rfl
@[simp] theorem advance_arg0 (rest : List MicroOp) (s : State) : (advance rest s).arg0 = s.arg0 := rfl
@[simp] theorem advance_arg1 (rest : List MicroOp) (s : State) : (advance rest s).arg1 = s.arg1 := rfl
@[simp] theorem advance_arg2 (rest : List MicroOp) (s : State) : (advance rest s).arg2 = s.arg2 := rfl
@[simp] theorem advance_result (rest : List MicroOp) (s : State) : (advance rest s).result = s.result := rfl
@[simp] theorem advance_busy (rest : List MicroOp) (s : State) : (advance rest s).busy = s.busy := rfl
@[simp] theorem advance_waiting (rest : List MicroOp) (s : State) : (advance rest s).waiting = s.waiting := rfl
@[simp] theorem advance_mode (rest : List MicroOp) (s : State) : (advance rest s).mode = s.mode := rfl
@[simp] theorem advance_lastErr (rest : List MicroOp) (s : State) : (advance rest s).lastErr = s.lastErr := rfl
@[simp] theorem advance_stickyTx (rest : List MicroOp) (s : State) : (advance rest s).stickyTx = s.stickyTx := rfl
@[simp] theorem advance_stickyFault (rest : List MicroOp) (s : State) : (advance rest s).stickyFault = s.stickyFault := rfl
@[simp] theorem advance_overrun (rest : List MicroOp) (s : State) : (advance rest s).overrun = s.overrun := rfl
@[simp] theorem advance_bg (rest : List MicroOp) (s : State) : (advance rest s).bg = s.bg := rfl
@[simp] theorem advance_rot (rest : List MicroOp) (s : State) : (advance rest s).rot = s.rot := rfl
@[simp] theorem advance_lat (rest : List MicroOp) (s : State) : (advance rest s).lat = s.lat := rfl
@[simp] theorem advance_seq (rest : List MicroOp) (s : State) : (advance rest s).seq = rest := rfl
@[simp] theorem advance_upc (rest : List MicroOp) (s : State) : (advance rest s).upc = s.upc + 1 := rfl
@[simp] theorem advance_trace (rest : List MicroOp) (s : State) : (advance rest s).trace = s.trace := rfl
@[simp] theorem advance_fb (rest : List MicroOp) (s : State) : (advance rest s).fb = s.fb := rfl
@[simp] theorem advance_rbuf (rest : List MicroOp) (s : State) : (advance rest s).rbuf = s.rbuf := rfl
@[simp] theorem advance_todo (rest : List MicroOp) (s : State) : (advance rest s).todo = s.todo := rfl
@[simp] theorem advance_hostData (rest : List MicroOp) (s : State) : (advance rest s).hostData = s.hostData := rfl
@[simp] theorem advance_env (rest : List MicroOp) (s : State) : (advance rest s).env = s.env := rfl
@[simp] theorem advance_draws (rest : List MicroOp) (s : State) : (advance rest s).draws = s.draws := rfl
@[simp] theorem advance_resets (rest : List MicroOp) (s : State) : (advance rest s).resets = s.resets := rfl

/-! ## startSeq -/

@[simp] theorem startSeq_req0 (ops : List MicroOp) (s : State) : (startSeq ops s).req0 = s.req0 := rfl
@[simp] theorem startSeq_arg0 (ops : List MicroOp) (s : State) : (startSeq ops s).arg0 = s.arg0 := rfl
@[simp] theorem startSeq_arg1 (ops : List MicroOp) (s : State) : (startSeq ops s).arg1 = s.arg1 := rfl
@[simp] theorem startSeq_arg2 (ops : List MicroOp) (s : State) : (startSeq ops s).arg2 = s.arg2 := rfl
@[simp] theorem startSeq_result (ops : List MicroOp) (s : State) : (startSeq ops s).result = s.result := rfl
@[simp] theorem startSeq_busy (ops : List MicroOp) (s : State) : (startSeq ops s).busy = true := rfl
@[simp] theorem startSeq_waiting (ops : List MicroOp) (s : State) : (startSeq ops s).waiting = s.waiting := rfl
@[simp] theorem startSeq_mode (ops : List MicroOp) (s : State) : (startSeq ops s).mode = s.mode := rfl
@[simp] theorem startSeq_lastErr (ops : List MicroOp) (s : State) : (startSeq ops s).lastErr = s.lastErr := rfl
@[simp] theorem startSeq_stickyTx (ops : List MicroOp) (s : State) : (startSeq ops s).stickyTx = s.stickyTx := rfl
@[simp] theorem startSeq_stickyFault (ops : List MicroOp) (s : State) : (startSeq ops s).stickyFault = s.stickyFault := rfl
@[simp] theorem startSeq_overrun (ops : List MicroOp) (s : State) : (startSeq ops s).overrun = s.overrun := rfl
@[simp] theorem startSeq_bg (ops : List MicroOp) (s : State) : (startSeq ops s).bg = s.bg := rfl
@[simp] theorem startSeq_rot (ops : List MicroOp) (s : State) : (startSeq ops s).rot = s.rot := rfl
@[simp] theorem startSeq_lat (ops : List MicroOp) (s : State) : (startSeq ops s).lat = s.lat := rfl
@[simp] theorem startSeq_seq (ops : List MicroOp) (s : State) : (startSeq ops s).seq = ops := rfl
@[simp] theorem startSeq_upc (ops : List MicroOp) (s : State) : (startSeq ops s).upc = 0 := rfl
@[simp] theorem startSeq_trace (ops : List MicroOp) (s : State) : (startSeq ops s).trace = s.trace := rfl
@[simp] theorem startSeq_fb (ops : List MicroOp) (s : State) : (startSeq ops s).fb = s.fb := rfl
@[simp] theorem startSeq_rbuf (ops : List MicroOp) (s : State) : (startSeq ops s).rbuf = s.rbuf := rfl
@[simp] theorem startSeq_todo (ops : List MicroOp) (s : State) : (startSeq ops s).todo = s.todo := rfl
@[simp] theorem startSeq_hostData (ops : List MicroOp) (s : State) : (startSeq ops s).hostData = s.hostData := rfl
@[simp] theorem startSeq_env (ops : List MicroOp) (s : State) : (startSeq ops s).env = s.env := rfl
@[simp] theorem startSeq_draws (ops : List MicroOp) (s : State) : (startSeq ops s).draws = s.draws := rfl
@[simp] theorem startSeq_resets (ops : List MicroOp) (s : State) : (startSeq ops s).resets = s.resets := rfl

/-! ## endSeq -/

@[simp] theorem endSeq_req0 (s : State) : (endSeq s).req0 = s.req0 := rfl
@[simp] theorem endSeq_arg0 (s : State) : (endSeq s).arg0 = s.arg0 := rfl
@[simp] theorem endSeq_arg1 (s : State) : (endSeq s).arg1 = s.arg1 := rfl
@[simp] theorem endSeq_arg2 (s : State) : (endSeq s).arg2 = s.arg2 := rfl
@[simp] theorem endSeq_result (s : State) : (endSeq s).result = s.result := rfl
@[simp] theorem endSeq_busy (s : State) : (endSeq s).busy = false := rfl
@[simp] theorem endSeq_waiting (s : State) : (endSeq s).waiting = false := rfl
@[simp] theorem endSeq_mode (s : State) : (endSeq s).mode = s.mode := rfl
@[simp] theorem endSeq_lastErr (s : State) : (endSeq s).lastErr = s.lastErr := rfl
@[simp] theorem endSeq_stickyTx (s : State) : (endSeq s).stickyTx = s.stickyTx := rfl
@[simp] theorem endSeq_stickyFault (s : State) : (endSeq s).stickyFault = s.stickyFault := rfl
@[simp] theorem endSeq_overrun (s : State) : (endSeq s).overrun = s.overrun := rfl
@[simp] theorem endSeq_bg (s : State) : (endSeq s).bg = s.bg := rfl
@[simp] theorem endSeq_rot (s : State) : (endSeq s).rot = s.rot := rfl
@[simp] theorem endSeq_lat (s : State) : (endSeq s).lat = s.lat := rfl
@[simp] theorem endSeq_seq (s : State) : (endSeq s).seq = [] := rfl
@[simp] theorem endSeq_upc (s : State) : (endSeq s).upc = 0 := rfl
@[simp] theorem endSeq_trace (s : State) : (endSeq s).trace = s.trace := rfl
@[simp] theorem endSeq_fb (s : State) : (endSeq s).fb = s.fb := rfl
@[simp] theorem endSeq_rbuf (s : State) : (endSeq s).rbuf = s.rbuf := rfl
@[simp] theorem endSeq_todo (s : State) : (endSeq s).todo = s.todo := rfl
@[simp] theorem endSeq_hostData (s : State) : (endSeq s).hostData = s.hostData := rfl
@[simp] theorem endSeq_env (s : State) : (endSeq s).env = s.env := rfl
@[simp] theorem endSeq_draws (s : State) : (endSeq s).draws = s.draws := rfl
@[simp] theorem endSeq_resets (s : State) : (endSeq s).resets = s.resets := rfl

/-! ## clearError -/

@[simp] theorem clearError_req0 (s : State) : (clearError s).req0 = s.req0 := rfl
@[simp] theorem clearError_arg0 (s : State) : (clearError s).arg0 = s.arg0 := rfl
@[simp] theorem clearError_arg1 (s : State) : (clearError s).arg1 = s.arg1 := rfl
@[simp] theorem clearError_arg2 (s : State) : (clearError s).arg2 = s.arg2 := rfl
@[simp] theorem clearError_result (s : State) : (clearError s).result = s.result := rfl
@[simp] theorem clearError_busy (s : State) : (clearError s).busy = s.busy := rfl
@[simp] theorem clearError_waiting (s : State) : (clearError s).waiting = s.waiting := rfl
@[simp] theorem clearError_mode (s : State) : (clearError s).mode = s.mode := rfl
@[simp] theorem clearError_lastErr (s : State) : (clearError s).lastErr = .none := rfl
@[simp] theorem clearError_stickyTx (s : State) : (clearError s).stickyTx = s.stickyTx := rfl
@[simp] theorem clearError_stickyFault (s : State) : (clearError s).stickyFault = s.stickyFault := rfl
@[simp] theorem clearError_overrun (s : State) : (clearError s).overrun = s.overrun := rfl
@[simp] theorem clearError_bg (s : State) : (clearError s).bg = s.bg := rfl
@[simp] theorem clearError_rot (s : State) : (clearError s).rot = s.rot := rfl
@[simp] theorem clearError_lat (s : State) : (clearError s).lat = s.lat := rfl
@[simp] theorem clearError_seq (s : State) : (clearError s).seq = s.seq := rfl
@[simp] theorem clearError_upc (s : State) : (clearError s).upc = s.upc := rfl
@[simp] theorem clearError_trace (s : State) : (clearError s).trace = s.trace := rfl
@[simp] theorem clearError_fb (s : State) : (clearError s).fb = s.fb := rfl
@[simp] theorem clearError_rbuf (s : State) : (clearError s).rbuf = s.rbuf := rfl
@[simp] theorem clearError_todo (s : State) : (clearError s).todo = s.todo := rfl
@[simp] theorem clearError_hostData (s : State) : (clearError s).hostData = s.hostData := rfl
@[simp] theorem clearError_env (s : State) : (clearError s).env = s.env := rfl
@[simp] theorem clearError_draws (s : State) : (clearError s).draws = s.draws := rfl
@[simp] theorem clearError_resets (s : State) : (clearError s).resets = s.resets := rfl

/-! ## latchRequest -/

@[simp] theorem latchRequest_req0 (op : Byte) (f : ReqFields) (s : State) : (latchRequest op f s).req0 = s.req0 := rfl
@[simp] theorem latchRequest_arg0 (op : Byte) (f : ReqFields) (s : State) : (latchRequest op f s).arg0 = s.arg0 := rfl
@[simp] theorem latchRequest_arg1 (op : Byte) (f : ReqFields) (s : State) : (latchRequest op f s).arg1 = s.arg1 := rfl
@[simp] theorem latchRequest_arg2 (op : Byte) (f : ReqFields) (s : State) : (latchRequest op f s).arg2 = s.arg2 := rfl
@[simp] theorem latchRequest_result (op : Byte) (f : ReqFields) (s : State) : (latchRequest op f s).result = s.result := rfl
@[simp] theorem latchRequest_busy (op : Byte) (f : ReqFields) (s : State) : (latchRequest op f s).busy = s.busy := rfl
@[simp] theorem latchRequest_waiting (op : Byte) (f : ReqFields) (s : State) : (latchRequest op f s).waiting = s.waiting := rfl
@[simp] theorem latchRequest_mode (op : Byte) (f : ReqFields) (s : State) : (latchRequest op f s).mode = s.mode := rfl
@[simp] theorem latchRequest_lastErr (op : Byte) (f : ReqFields) (s : State) : (latchRequest op f s).lastErr = s.lastErr := rfl
@[simp] theorem latchRequest_stickyTx (op : Byte) (f : ReqFields) (s : State) : (latchRequest op f s).stickyTx = s.stickyTx := rfl
@[simp] theorem latchRequest_stickyFault (op : Byte) (f : ReqFields) (s : State) : (latchRequest op f s).stickyFault = s.stickyFault := rfl
@[simp] theorem latchRequest_overrun (op : Byte) (f : ReqFields) (s : State) : (latchRequest op f s).overrun = s.overrun := rfl
@[simp] theorem latchRequest_bg (op : Byte) (f : ReqFields) (s : State) : (latchRequest op f s).bg = s.bg := rfl
@[simp] theorem latchRequest_rot (op : Byte) (f : ReqFields) (s : State) : (latchRequest op f s).rot = s.rot := rfl
@[simp] theorem latchRequest_lat (op : Byte) (f : ReqFields) (s : State) : (latchRequest op f s).lat = { s.lat with op := op, color := f.color, rot := f.rotf } := rfl
@[simp] theorem latchRequest_seq (op : Byte) (f : ReqFields) (s : State) : (latchRequest op f s).seq = s.seq := rfl
@[simp] theorem latchRequest_upc (op : Byte) (f : ReqFields) (s : State) : (latchRequest op f s).upc = s.upc := rfl
@[simp] theorem latchRequest_trace (op : Byte) (f : ReqFields) (s : State) : (latchRequest op f s).trace = s.trace := rfl
@[simp] theorem latchRequest_fb (op : Byte) (f : ReqFields) (s : State) : (latchRequest op f s).fb = s.fb := rfl
@[simp] theorem latchRequest_rbuf (op : Byte) (f : ReqFields) (s : State) : (latchRequest op f s).rbuf = s.rbuf := rfl
@[simp] theorem latchRequest_todo (op : Byte) (f : ReqFields) (s : State) : (latchRequest op f s).todo = s.todo := rfl
@[simp] theorem latchRequest_hostData (op : Byte) (f : ReqFields) (s : State) : (latchRequest op f s).hostData = s.hostData := rfl
@[simp] theorem latchRequest_env (op : Byte) (f : ReqFields) (s : State) : (latchRequest op f s).env = s.env := rfl
@[simp] theorem latchRequest_draws (op : Byte) (f : ReqFields) (s : State) : (latchRequest op f s).draws = s.draws := rfl
@[simp] theorem latchRequest_resets (op : Byte) (f : ReqFields) (s : State) : (latchRequest op f s).resets = s.resets := rfl

/-! ## latchRegion -/

@[simp] theorem latchRegion_req0 (op : Byte) (f : ReqFields) (s : State) : (latchRegion op f s).req0 = s.req0 := rfl
@[simp] theorem latchRegion_arg0 (op : Byte) (f : ReqFields) (s : State) : (latchRegion op f s).arg0 = s.arg0 := rfl
@[simp] theorem latchRegion_arg1 (op : Byte) (f : ReqFields) (s : State) : (latchRegion op f s).arg1 = s.arg1 := rfl
@[simp] theorem latchRegion_arg2 (op : Byte) (f : ReqFields) (s : State) : (latchRegion op f s).arg2 = s.arg2 := rfl
@[simp] theorem latchRegion_result (op : Byte) (f : ReqFields) (s : State) : (latchRegion op f s).result = s.result := rfl
@[simp] theorem latchRegion_busy (op : Byte) (f : ReqFields) (s : State) : (latchRegion op f s).busy = s.busy := rfl
@[simp] theorem latchRegion_waiting (op : Byte) (f : ReqFields) (s : State) : (latchRegion op f s).waiting = s.waiting := rfl
@[simp] theorem latchRegion_mode (op : Byte) (f : ReqFields) (s : State) : (latchRegion op f s).mode = s.mode := rfl
@[simp] theorem latchRegion_lastErr (op : Byte) (f : ReqFields) (s : State) : (latchRegion op f s).lastErr = s.lastErr := rfl
@[simp] theorem latchRegion_stickyTx (op : Byte) (f : ReqFields) (s : State) : (latchRegion op f s).stickyTx = s.stickyTx := rfl
@[simp] theorem latchRegion_stickyFault (op : Byte) (f : ReqFields) (s : State) : (latchRegion op f s).stickyFault = s.stickyFault := rfl
@[simp] theorem latchRegion_overrun (op : Byte) (f : ReqFields) (s : State) : (latchRegion op f s).overrun = s.overrun := rfl
@[simp] theorem latchRegion_bg (op : Byte) (f : ReqFields) (s : State) : (latchRegion op f s).bg = s.bg := rfl
@[simp] theorem latchRegion_rot (op : Byte) (f : ReqFields) (s : State) : (latchRegion op f s).rot = s.rot := rfl
@[simp] theorem latchRegion_lat (op : Byte) (f : ReqFields) (s : State) : (latchRegion op f s).lat = { s.lat with
    op := op, color := f.color, rot := f.rotf, x := lowHalf s.arg0, y := highHalf s.arg0,
    w := lowHalf s.arg1, h := highHalf s.arg1, len := lowHalf s.arg2 } := rfl
@[simp] theorem latchRegion_seq (op : Byte) (f : ReqFields) (s : State) : (latchRegion op f s).seq = s.seq := rfl
@[simp] theorem latchRegion_upc (op : Byte) (f : ReqFields) (s : State) : (latchRegion op f s).upc = s.upc := rfl
@[simp] theorem latchRegion_trace (op : Byte) (f : ReqFields) (s : State) : (latchRegion op f s).trace = s.trace := rfl
@[simp] theorem latchRegion_fb (op : Byte) (f : ReqFields) (s : State) : (latchRegion op f s).fb = s.fb := rfl
@[simp] theorem latchRegion_rbuf (op : Byte) (f : ReqFields) (s : State) : (latchRegion op f s).rbuf = s.rbuf := rfl
@[simp] theorem latchRegion_todo (op : Byte) (f : ReqFields) (s : State) : (latchRegion op f s).todo = s.todo := rfl
@[simp] theorem latchRegion_hostData (op : Byte) (f : ReqFields) (s : State) : (latchRegion op f s).hostData = s.hostData := rfl
@[simp] theorem latchRegion_env (op : Byte) (f : ReqFields) (s : State) : (latchRegion op f s).env = s.env := rfl
@[simp] theorem latchRegion_draws (op : Byte) (f : ReqFields) (s : State) : (latchRegion op f s).draws = s.draws := rfl
@[simp] theorem latchRegion_resets (op : Byte) (f : ReqFields) (s : State) : (latchRegion op f s).resets = s.resets := rfl

/-! ## latchPoint -/

@[simp] theorem latchPoint_req0 (op : Byte) (f : ReqFields) (s : State) : (latchPoint op f s).req0 = s.req0 := rfl
@[simp] theorem latchPoint_arg0 (op : Byte) (f : ReqFields) (s : State) : (latchPoint op f s).arg0 = s.arg0 := rfl
@[simp] theorem latchPoint_arg1 (op : Byte) (f : ReqFields) (s : State) : (latchPoint op f s).arg1 = s.arg1 := rfl
@[simp] theorem latchPoint_arg2 (op : Byte) (f : ReqFields) (s : State) : (latchPoint op f s).arg2 = s.arg2 := rfl
@[simp] theorem latchPoint_result (op : Byte) (f : ReqFields) (s : State) : (latchPoint op f s).result = s.result := rfl
@[simp] theorem latchPoint_busy (op : Byte) (f : ReqFields) (s : State) : (latchPoint op f s).busy = s.busy := rfl
@[simp] theorem latchPoint_waiting (op : Byte) (f : ReqFields) (s : State) : (latchPoint op f s).waiting = s.waiting := rfl
@[simp] theorem latchPoint_mode (op : Byte) (f : ReqFields) (s : State) : (latchPoint op f s).mode = s.mode := rfl
@[simp] theorem latchPoint_lastErr (op : Byte) (f : ReqFields) (s : State) : (latchPoint op f s).lastErr = s.lastErr := rfl
@[simp] theorem latchPoint_stickyTx (op : Byte) (f : ReqFields) (s : State) : (latchPoint op f s).stickyTx = s.stickyTx := rfl
@[simp] theorem latchPoint_stickyFault (op : Byte) (f : ReqFields) (s : State) : (latchPoint op f s).stickyFault = s.stickyFault := rfl
@[simp] theorem latchPoint_overrun (op : Byte) (f : ReqFields) (s : State) : (latchPoint op f s).overrun = s.overrun := rfl
@[simp] theorem latchPoint_bg (op : Byte) (f : ReqFields) (s : State) : (latchPoint op f s).bg = s.bg := rfl
@[simp] theorem latchPoint_rot (op : Byte) (f : ReqFields) (s : State) : (latchPoint op f s).rot = s.rot := rfl
@[simp] theorem latchPoint_lat (op : Byte) (f : ReqFields) (s : State) : (latchPoint op f s).lat = { s.lat with
    op := op, color := f.color, rot := f.rotf, x := lowHalf s.arg0, y := highHalf s.arg0 } := rfl
@[simp] theorem latchPoint_seq (op : Byte) (f : ReqFields) (s : State) : (latchPoint op f s).seq = s.seq := rfl
@[simp] theorem latchPoint_upc (op : Byte) (f : ReqFields) (s : State) : (latchPoint op f s).upc = s.upc := rfl
@[simp] theorem latchPoint_trace (op : Byte) (f : ReqFields) (s : State) : (latchPoint op f s).trace = s.trace := rfl
@[simp] theorem latchPoint_fb (op : Byte) (f : ReqFields) (s : State) : (latchPoint op f s).fb = s.fb := rfl
@[simp] theorem latchPoint_rbuf (op : Byte) (f : ReqFields) (s : State) : (latchPoint op f s).rbuf = s.rbuf := rfl
@[simp] theorem latchPoint_todo (op : Byte) (f : ReqFields) (s : State) : (latchPoint op f s).todo = s.todo := rfl
@[simp] theorem latchPoint_hostData (op : Byte) (f : ReqFields) (s : State) : (latchPoint op f s).hostData = s.hostData := rfl
@[simp] theorem latchPoint_env (op : Byte) (f : ReqFields) (s : State) : (latchPoint op f s).env = s.env := rfl
@[simp] theorem latchPoint_draws (op : Byte) (f : ReqFields) (s : State) : (latchPoint op f s).draws = s.draws := rfl
@[simp] theorem latchPoint_resets (op : Byte) (f : ReqFields) (s : State) : (latchPoint op f s).resets = s.resets := rfl

/-! ## latchIndex -/

@[simp] theorem latchIndex_req0 (op : Byte) (f : ReqFields) (s : State) : (latchIndex op f s).req0 = s.req0 := rfl
@[simp] theorem latchIndex_arg0 (op : Byte) (f : ReqFields) (s : State) : (latchIndex op f s).arg0 = s.arg0 := rfl
@[simp] theorem latchIndex_arg1 (op : Byte) (f : ReqFields) (s : State) : (latchIndex op f s).arg1 = s.arg1 := rfl
@[simp] theorem latchIndex_arg2 (op : Byte) (f : ReqFields) (s : State) : (latchIndex op f s).arg2 = s.arg2 := rfl
@[simp] theorem latchIndex_result (op : Byte) (f : ReqFields) (s : State) : (latchIndex op f s).result = s.result := rfl
@[simp] theorem latchIndex_busy (op : Byte) (f : ReqFields) (s : State) : (latchIndex op f s).busy = s.busy := rfl
@[simp] theorem latchIndex_waiting (op : Byte) (f : ReqFields) (s : State) : (latchIndex op f s).waiting = s.waiting := rfl
@[simp] theorem latchIndex_mode (op : Byte) (f : ReqFields) (s : State) : (latchIndex op f s).mode = s.mode := rfl
@[simp] theorem latchIndex_lastErr (op : Byte) (f : ReqFields) (s : State) : (latchIndex op f s).lastErr = s.lastErr := rfl
@[simp] theorem latchIndex_stickyTx (op : Byte) (f : ReqFields) (s : State) : (latchIndex op f s).stickyTx = s.stickyTx := rfl
@[simp] theorem latchIndex_stickyFault (op : Byte) (f : ReqFields) (s : State) : (latchIndex op f s).stickyFault = s.stickyFault := rfl
@[simp] theorem latchIndex_overrun (op : Byte) (f : ReqFields) (s : State) : (latchIndex op f s).overrun = s.overrun := rfl
@[simp] theorem latchIndex_bg (op : Byte) (f : ReqFields) (s : State) : (latchIndex op f s).bg = s.bg := rfl
@[simp] theorem latchIndex_rot (op : Byte) (f : ReqFields) (s : State) : (latchIndex op f s).rot = s.rot := rfl
@[simp] theorem latchIndex_lat (op : Byte) (f : ReqFields) (s : State) : (latchIndex op f s).lat = { s.lat with
    op := op, color := f.color, rot := f.rotf, idx := lowHalf s.arg0, val := lowByte s.arg1 } := rfl
@[simp] theorem latchIndex_seq (op : Byte) (f : ReqFields) (s : State) : (latchIndex op f s).seq = s.seq := rfl
@[simp] theorem latchIndex_upc (op : Byte) (f : ReqFields) (s : State) : (latchIndex op f s).upc = s.upc := rfl
@[simp] theorem latchIndex_trace (op : Byte) (f : ReqFields) (s : State) : (latchIndex op f s).trace = s.trace := rfl
@[simp] theorem latchIndex_fb (op : Byte) (f : ReqFields) (s : State) : (latchIndex op f s).fb = s.fb := rfl
@[simp] theorem latchIndex_rbuf (op : Byte) (f : ReqFields) (s : State) : (latchIndex op f s).rbuf = s.rbuf := rfl
@[simp] theorem latchIndex_todo (op : Byte) (f : ReqFields) (s : State) : (latchIndex op f s).todo = s.todo := rfl
@[simp] theorem latchIndex_hostData (op : Byte) (f : ReqFields) (s : State) : (latchIndex op f s).hostData = s.hostData := rfl
@[simp] theorem latchIndex_env (op : Byte) (f : ReqFields) (s : State) : (latchIndex op f s).env = s.env := rfl
@[simp] theorem latchIndex_draws (op : Byte) (f : ReqFields) (s : State) : (latchIndex op f s).draws = s.draws := rfl
@[simp] theorem latchIndex_resets (op : Byte) (f : ReqFields) (s : State) : (latchIndex op f s).resets = s.resets := rfl

/-! ## hostRead -/

@[simp] theorem hostRead_req0 (off : BitVec 5) (s : State) : (hostRead off s).req0 = s.req0 := rfl
@[simp] theorem hostRead_arg0 (off : BitVec 5) (s : State) : (hostRead off s).arg0 = s.arg0 := rfl
@[simp] theorem hostRead_arg1 (off : BitVec 5) (s : State) : (hostRead off s).arg1 = s.arg1 := rfl
@[simp] theorem hostRead_arg2 (off : BitVec 5) (s : State) : (hostRead off s).arg2 = s.arg2 := rfl
@[simp] theorem hostRead_result (off : BitVec 5) (s : State) : (hostRead off s).result = s.result := rfl
@[simp] theorem hostRead_busy (off : BitVec 5) (s : State) : (hostRead off s).busy = s.busy := rfl
@[simp] theorem hostRead_waiting (off : BitVec 5) (s : State) : (hostRead off s).waiting = s.waiting := rfl
@[simp] theorem hostRead_mode (off : BitVec 5) (s : State) : (hostRead off s).mode = s.mode := rfl
@[simp] theorem hostRead_lastErr (off : BitVec 5) (s : State) : (hostRead off s).lastErr = s.lastErr := rfl
@[simp] theorem hostRead_stickyTx (off : BitVec 5) (s : State) : (hostRead off s).stickyTx = s.stickyTx := rfl
@[simp] theorem hostRead_stickyFault (off : BitVec 5) (s : State) : (hostRead off s).stickyFault = s.stickyFault := rfl
@[simp] theorem hostRead_overrun (off : BitVec 5) (s : State) : (hostRead off s).overrun = s.overrun := rfl
@[simp] theorem hostRead_bg (off : BitVec 5) (s : State) : (hostRead off s).bg = s.bg := rfl
@[simp] theorem hostRead_rot (off : BitVec 5) (s : State) : (hostRead off s).rot = s.rot := rfl
@[simp] theorem hostRead_lat (off : BitVec 5) (s : State) : (hostRead off s).lat = s.lat := rfl
@[simp] theorem hostRead_seq (off : BitVec 5) (s : State) : (hostRead off s).seq = s.seq := rfl
@[simp] theorem hostRead_upc (off : BitVec 5) (s : State) : (hostRead off s).upc = s.upc := rfl
@[simp] theorem hostRead_trace (off : BitVec 5) (s : State) : (hostRead off s).trace = s.trace := rfl
@[simp] theorem hostRead_fb (off : BitVec 5) (s : State) : (hostRead off s).fb = s.fb := rfl
@[simp] theorem hostRead_rbuf (off : BitVec 5) (s : State) : (hostRead off s).rbuf = s.rbuf := rfl
@[simp] theorem hostRead_todo (off : BitVec 5) (s : State) : (hostRead off s).todo = s.todo := rfl
@[simp] theorem hostRead_hostData (off : BitVec 5) (s : State) : (hostRead off s).hostData = readReg off s := rfl
@[simp] theorem hostRead_env (off : BitVec 5) (s : State) : (hostRead off s).env = s.env := rfl
@[simp] theorem hostRead_draws (off : BitVec 5) (s : State) : (hostRead off s).draws = s.draws := rfl
@[simp] theorem hostRead_resets (off : BitVec 5) (s : State) : (hostRead off s).resets = s.resets := rfl

/-! ## raise transport -/

@[simp] theorem raise_transport_req0 (k : TxKind) (b : Byte) (s : State) : (raise (.transport k b) s).req0 = s.req0 := rfl
@[simp] theorem raise_transport_arg0 (k : TxKind) (b : Byte) (s : State) : (raise (.transport k b) s).arg0 = s.arg0 := rfl
@[simp] theorem raise_transport_arg1 (k : TxKind) (b : Byte) (s : State) : (raise (.transport k b) s).arg1 = s.arg1 := rfl
@[simp] theorem raise_transport_arg2 (k : TxKind) (b : Byte) (s : State) : (raise (.transport k b) s).arg2 = s.arg2 := rfl
@[simp] theorem raise_transport_result (k : TxKind) (b : Byte) (s : State) : (raise (.transport k b) s).result = s.result := rfl
@[simp] theorem raise_transport_busy (k : TxKind) (b : Byte) (s : State) : (raise (.transport k b) s).busy = false := rfl
@[simp] theorem raise_transport_waiting (k : TxKind) (b : Byte) (s : State) : (raise (.transport k b) s).waiting = false := rfl
@[simp] theorem raise_transport_mode (k : TxKind) (b : Byte) (s : State) : (raise (.transport k b) s).mode = .indeterminate := rfl
@[simp] theorem raise_transport_lastErr (k : TxKind) (b : Byte) (s : State) : (raise (.transport k b) s).lastErr = .transportError := rfl
@[simp] theorem raise_transport_stickyTx (k : TxKind) (b : Byte) (s : State) : (raise (.transport k b) s).stickyTx = true := rfl
@[simp] theorem raise_transport_stickyFault (k : TxKind) (b : Byte) (s : State) : (raise (.transport k b) s).stickyFault = s.stickyFault := rfl
@[simp] theorem raise_transport_overrun (k : TxKind) (b : Byte) (s : State) : (raise (.transport k b) s).overrun = s.overrun := rfl
@[simp] theorem raise_transport_bg (k : TxKind) (b : Byte) (s : State) : (raise (.transport k b) s).bg = s.bg := rfl
@[simp] theorem raise_transport_rot (k : TxKind) (b : Byte) (s : State) : (raise (.transport k b) s).rot = s.rot := rfl
@[simp] theorem raise_transport_lat (k : TxKind) (b : Byte) (s : State) : (raise (.transport k b) s).lat = s.lat := rfl
@[simp] theorem raise_transport_seq (k : TxKind) (b : Byte) (s : State) : (raise (.transport k b) s).seq = [] := rfl
@[simp] theorem raise_transport_upc (k : TxKind) (b : Byte) (s : State) : (raise (.transport k b) s).upc = 0 := rfl
@[simp] theorem raise_transport_trace (k : TxKind) (b : Byte) (s : State) : (raise (.transport k b) s).trace = s.trace ++ [.txFail k b] := rfl
@[simp] theorem raise_transport_fb (k : TxKind) (b : Byte) (s : State) : (raise (.transport k b) s).fb = s.fb := rfl
@[simp] theorem raise_transport_rbuf (k : TxKind) (b : Byte) (s : State) : (raise (.transport k b) s).rbuf = s.rbuf := rfl
@[simp] theorem raise_transport_todo (k : TxKind) (b : Byte) (s : State) : (raise (.transport k b) s).todo = s.todo := rfl
@[simp] theorem raise_transport_hostData (k : TxKind) (b : Byte) (s : State) : (raise (.transport k b) s).hostData = s.hostData := rfl
@[simp] theorem raise_transport_env (k : TxKind) (b : Byte) (s : State) : (raise (.transport k b) s).env = s.env := rfl
@[simp] theorem raise_transport_draws (k : TxKind) (b : Byte) (s : State) : (raise (.transport k b) s).draws = s.draws := rfl
@[simp] theorem raise_transport_resets (k : TxKind) (b : Byte) (s : State) : (raise (.transport k b) s).resets = s.resets := rfl

/-! ## raise illegalRequest -/

@[simp] theorem raise_illegalRequest_req0 (s : State) : (raise .illegalRequest s).req0 = s.req0 := rfl
@[simp] theorem raise_illegalRequest_arg0 (s : State) : (raise .illegalRequest s).arg0 = s.arg0 := rfl
@[simp] theorem raise_illegalRequest_arg1 (s : State) : (raise .illegalRequest s).arg1 = s.arg1 := rfl
@[simp] theorem raise_illegalRequest_arg2 (s : State) : (raise .illegalRequest s).arg2 = s.arg2 := rfl
@[simp] theorem raise_illegalRequest_result (s : State) : (raise .illegalRequest s).result = s.result := rfl
@[simp] theorem raise_illegalRequest_busy (s : State) : (raise .illegalRequest s).busy = s.busy := rfl
@[simp] theorem raise_illegalRequest_waiting (s : State) : (raise .illegalRequest s).waiting = s.waiting := rfl
@[simp] theorem raise_illegalRequest_mode (s : State) : (raise .illegalRequest s).mode = s.mode := rfl
@[simp] theorem raise_illegalRequest_lastErr (s : State) : (raise .illegalRequest s).lastErr = .illegalRequest := rfl
@[simp] theorem raise_illegalRequest_stickyTx (s : State) : (raise .illegalRequest s).stickyTx = s.stickyTx := rfl
@[simp] theorem raise_illegalRequest_stickyFault (s : State) : (raise .illegalRequest s).stickyFault = true := rfl
@[simp] theorem raise_illegalRequest_overrun (s : State) : (raise .illegalRequest s).overrun = s.overrun := rfl
@[simp] theorem raise_illegalRequest_bg (s : State) : (raise .illegalRequest s).bg = s.bg := rfl
@[simp] theorem raise_illegalRequest_rot (s : State) : (raise .illegalRequest s).rot = s.rot := rfl
@[simp] theorem raise_illegalRequest_lat (s : State) : (raise .illegalRequest s).lat = s.lat := rfl
@[simp] theorem raise_illegalRequest_seq (s : State) : (raise .illegalRequest s).seq = s.seq := rfl
@[simp] theorem raise_illegalRequest_upc (s : State) : (raise .illegalRequest s).upc = s.upc := rfl
@[simp] theorem raise_illegalRequest_trace (s : State) : (raise .illegalRequest s).trace = s.trace := rfl
@[simp] theorem raise_illegalRequest_fb (s : State) : (raise .illegalRequest s).fb = s.fb := rfl
@[simp] theorem raise_illegalRequest_rbuf (s : State) : (raise .illegalRequest s).rbuf = s.rbuf := rfl
@[simp] theorem raise_illegalRequest_todo (s : State) : (raise .illegalRequest s).todo = s.todo := rfl
@[simp] theorem raise_illegalRequest_hostData (s : State) : (raise .illegalRequest s).hostData = s.hostData := rfl
@[simp] theorem raise_illegalRequest_env (s : State) : (raise .illegalRequest s).env = s.env := rfl
@[simp] theorem raise_illegalRequest_draws (s : State) : (raise .illegalRequest s).draws = s.draws := rfl
@[simp] theorem raise_illegalRequest_resets (s : State) : (raise .illegalRequest s).resets = s.resets := rfl

/-! ## raise modeFault -/

@[simp] theorem raise_modeFault_req0 (s : State) : (raise .modeFault s).req0 = s.req0 := rfl
@[simp] theorem raise_modeFault_arg0 (s : State) : (raise .modeFault s).arg0 = s.arg0 := rfl
@[simp] theorem raise_modeFault_arg1 (s : State) : (raise .modeFault s).arg1 = s.arg1 := rfl
@[simp] theorem raise_modeFault_arg2 (s : State) : (raise .modeFault s).arg2 = s.arg2 := rfl
@[simp] theorem raise_modeFault_result (s : State) : (raise .modeFault s).result = s.result := rfl
@[simp] theorem raise_modeFault_busy (s : State) : (raise .modeFault s).busy = s.busy := rfl
@[simp] theorem raise_modeFault_waiting (s : State) : (raise .modeFault s).waiting = s.waiting := rfl
@[simp] theorem raise_modeFault_mode (s : State) : (raise .modeFault s).mode = s.mode := rfl
@[simp] theorem raise_modeFault_lastErr (s : State) : (raise .modeFault s).lastErr = .modeFault := rfl
@[simp] theorem raise_modeFault_stickyTx (s : State) : (raise .modeFault s).stickyTx = s.stickyTx := rfl
@[simp] theorem raise_modeFault_stickyFault (s : State) : (raise .modeFault s).stickyFault = true := rfl
@[simp] theorem raise_modeFault_overrun (s : State) : (raise .modeFault s).overrun = s.overrun := rfl
@[simp] theorem raise_modeFault_bg (s : State) : (raise .modeFault s).bg = s.bg := rfl
@[simp] theorem raise_modeFault_rot (s : State) : (raise .modeFault s).rot = s.rot := rfl
@[simp] theorem raise_modeFault_lat (s : State) : (raise .modeFault s).lat = s.lat := rfl
@[simp] theorem raise_modeFault_seq (s : State) : (raise .modeFault s).seq = s.seq := rfl
@[simp] theorem raise_modeFault_upc (s : State) : (raise .modeFault s).upc = s.upc := rfl
@[simp] theorem raise_modeFault_trace (s : State) : (raise .modeFault s).trace = s.trace := rfl
@[simp] theorem raise_modeFault_fb (s : State) : (raise .modeFault s).fb = s.fb := rfl
@[simp] theorem raise_modeFault_rbuf (s : State) : (raise .modeFault s).rbuf = s.rbuf := rfl
@[simp] theorem raise_modeFault_todo (s : State) : (raise .modeFault s).todo = s.todo := rfl
@[simp] theorem raise_modeFault_hostData (s : State) : (raise .modeFault s).hostData = s.hostData := rfl
@[simp] theorem raise_modeFault_env (s : State) : (raise .modeFault s).env = s.env := rfl
@[simp] theorem raise_modeFault_draws (s : State) : (raise .modeFault s).draws = s.draws := rfl
@[simp] theorem raise_modeFault_resets (s : State) : (raise .modeFault s).resets = s.resets := rfl

/-! ## raise bufferIndexFault -/

@[simp] theorem raise_bufferIndexFault_req0 (s : State) : (raise .bufferIndexFault s).req0 = s.req0 := rfl
@[simp] theorem raise_bufferIndexFault_arg0 (s : State) : (raise .bufferIndexFault s).arg0 = s.arg0 := rfl
@[simp] theorem raise_bufferIndexFault_arg1 (s : State) : (raise .bufferIndexFault s).arg1 = s.arg1 := rfl
@[simp] theorem raise_bufferIndexFault_arg2 (s : State) : (raise .bufferIndexFault s).arg2 = s.arg2 := rfl
@[simp] theorem raise_bufferIndexFault_result (s : State) : (raise .bufferIndexFault s).result = s.result := rfl
@[simp] theorem raise_bufferIndexFault_busy (s : State) : (raise .bufferIndexFault s).busy = s.busy := rfl
@[simp] theorem raise_bufferIndexFault_waiting (s : State) : (raise .bufferIndexFault s).waiting = s.waiting := rfl
@[simp] theorem raise_bufferIndexFault_mode (s : State) : (raise .bufferIndexFault s).mode = s.mode := rfl
@[simp] theorem raise_bufferIndexFault_lastErr (s : State) : (raise .bufferIndexFault s).lastErr = .bufferIndexFault := rfl
@[simp] theorem raise_bufferIndexFault_stickyTx (s : State) : (raise .bufferIndexFault s).stickyTx = s.stickyTx := rfl
@[simp] theorem raise_bufferIndexFault_stickyFault (s : State) : (raise .bufferIndexFault s).stickyFault = true := rfl
@[simp] theorem raise_bufferIndexFault_overrun (s : State) : (raise .bufferIndexFault s).overrun = s.overrun := rfl
@[simp] theorem raise_bufferIndexFault_bg (s : State) : (raise .bufferIndexFault s).bg = s.bg := rfl
@[simp] theorem raise_bufferIndexFault_rot (s : State) : (raise .bufferIndexFault s).rot = s.rot := rfl
@[simp] theorem raise_bufferIndexFault_lat (s : State) : (raise .bufferIndexFault s).lat = s.lat := rfl
@[simp] theorem raise_bufferIndexFault_seq (s : State) : (raise .bufferIndexFault s).seq = s.seq := rfl
@[simp] theorem raise_bufferIndexFault_upc (s : State) : (raise .bufferIndexFault s).upc = s.upc := rfl
@[simp] theorem raise_bufferIndexFault_trace (s : State) : (raise .bufferIndexFault s).trace = s.trace := rfl
@[simp] theorem raise_bufferIndexFault_fb (s : State) : (raise .bufferIndexFault s).fb = s.fb := rfl
@[simp] theorem raise_bufferIndexFault_rbuf (s : State) : (raise .bufferIndexFault s).rbuf = s.rbuf := rfl
@[simp] theorem raise_bufferIndexFault_todo (s : State) : (raise .bufferIndexFault s).todo = s.todo := rfl
@[simp] theorem raise_bufferIndexFault_hostData (s : State) : (raise .bufferIndexFault s).hostData = s.hostData := rfl
@[simp] theorem raise_bufferIndexFault_env (s : State) : (raise .bufferIndexFault s).env = s.env := rfl
@[simp] theorem raise_bufferIndexFault_draws (s : State) : (raise .bufferIndexFault s).draws = s.draws := rfl
@[simp] theorem raise_bufferIndexFault_resets (s : State) : (raise .bufferIndexFault s).resets = s.resets := rfl

/-! ## raise requestWhileBusy -/

@[simp] theorem raise_requestWhileBusy_req0 (s : State) : (raise .requestWhileBusy s).req0 = s.req0 := rfl
@[simp] theorem raise_requestWhileBusy_arg0 (s : State) : (raise .requestWhileBusy s).arg0 = s.arg0 := rfl
@[simp] theorem raise_requestWhileBusy_arg1 (s : State) : (raise .requestWhileBusy s).arg1 = s.arg1 := rfl
@[simp] theorem raise_requestWhileBusy_arg2 (s : State) : (raise .requestWhileBusy s).arg2 = s.arg2 := rfl
@[simp] theorem raise_requestWhileBusy_result (s : State) : (raise .requestWhileBusy s).result = s.result := rfl
@[simp] theorem raise_requestWhileBusy_busy (s : State) : (raise .requestWhileBusy s).busy = s.busy := rfl
@[simp] theorem raise_requestWhileBusy_waiting (s : State) : (raise .requestWhileBusy s).waiting = s.waiting := rfl
@[simp] theorem raise_requestWhileBusy_mode (s : State) : (raise .requestWhileBusy s).mode = s.mode := rfl
@[simp] theorem raise_requestWhileBusy_lastErr (s : State) : (raise .requestWhileBusy s).lastErr = s.lastErr := rfl
@[simp] theorem raise_requestWhileBusy_stickyTx (s : State) : (raise .requestWhileBusy s).stickyTx = s.stickyTx := rfl
@[simp] theorem raise_requestWhileBusy_stickyFault (s : State) : (raise .requestWhileBusy s).stickyFault = true := rfl
@[simp] theorem raise_requestWhileBusy_overrun (s : State) : (raise .requestWhileBusy s).overrun = true := rfl
@[simp] theorem raise_requestWhileBusy_bg (s : State) : (raise .requestWhileBusy s).bg = s.bg := rfl
@[simp] theorem raise_requestWhileBusy_rot (s : State) : (raise .requestWhileBusy s).rot = s.rot := rfl
@[simp] theorem raise_requestWhileBusy_lat (s : State) : (raise .requestWhileBusy s).lat = s.lat := rfl
@[simp] theorem raise_requestWhileBusy_seq (s : State) : (raise .requestWhileBusy s).seq = s.seq := rfl
@[simp] theorem raise_requestWhileBusy_upc (s : State) : (raise .requestWhileBusy s).upc = s.upc := rfl
@[simp] theorem raise_requestWhileBusy_trace (s : State) : (raise .requestWhileBusy s).trace = s.trace := rfl
@[simp] theorem raise_requestWhileBusy_fb (s : State) : (raise .requestWhileBusy s).fb = s.fb := rfl
@[simp] theorem raise_requestWhileBusy_rbuf (s : State) : (raise .requestWhileBusy s).rbuf = s.rbuf := rfl
@[simp] theorem raise_requestWhileBusy_todo (s : State) : (raise .requestWhileBusy s).todo = s.todo := rfl
@[simp] theorem raise_requestWhileBusy_hostData (s : State) : (raise .requestWhileBusy s).hostData = s.hostData := rfl
@[simp] theorem raise_requestWhileBusy_env (s : State) : (raise .requestWhileBusy s).env = s.env := rfl
@[simp] theorem raise_requestWhileBusy_draws (s : State) : (raise .requestWhileBusy s).draws = s.draws := rfl
@[simp] theorem raise_requestWhileBusy_resets (s : State) : (raise .requestWhileBusy s).resets = s.resets := rfl

end Sys2Proof.Machine
end

