-- ==== Sys2Proof/Laws/Ops.lean ====
section
/-! SUPPORT. One lemma per shared operation that says once everything it can do. -/

namespace Sys2Proof.Machine

/-! ## Acceptance -/

/-- A decoded request is refused for one of three reasons, in this order, or accepted. -/
theorem takeRequest_cases (acc : Mode → Bool) (out : State → Bool) (latch : State → State)
    (run : State → Host.Outcome State Fault Refusal) (s : State) :
    (s.busy = true ∧ takeRequest acc out latch run s = .next (raise .requestWhileBusy s)) ∨
    (s.busy = false ∧ acc s.mode = false ∧ takeRequest acc out latch run s = .next (raise .modeFault s)) ∨
    (s.busy = false ∧ acc s.mode = true ∧ out s = true ∧
      takeRequest acc out latch run s = .next (raise .bufferIndexFault s)) ∨
    (s.busy = false ∧ acc s.mode = true ∧ out s = false ∧
      takeRequest acc out latch run s = run (latch (clearError s))) := by
  unfold takeRequest
  cases hb : s.busy <;> cases ha : acc s.mode <;> cases ho : out s <;> simp

/-- A request that passes every check runs on its latched operands. -/
theorem takeRequest_accepted {acc : Mode → Bool} {out : State → Bool} {latch : State → State}
    {run : State → Host.Outcome State Fault Refusal} {s : State} (hb : s.busy = false) (ha : acc s.mode = true)
    (ho : out s = false) : takeRequest acc out latch run s = run (latch (clearError s)) := by
  simp [takeRequest, hb, ha, ho]

/-- A request while one is in flight is only recorded. -/
theorem takeRequest_busy {acc : Mode → Bool} {out : State → Bool} {latch : State → State}
    {run : State → Host.Outcome State Fault Refusal} {s : State} (hb : s.busy = true) :
    takeRequest acc out latch run s = .next (raise .requestWhileBusy s) := by
  simp [takeRequest, hb]

/-- Every host request, while one is in flight, is only recorded. -/
theorem exec_request_busy {i : Instr} {f : ReqFields} {s : State} (hi : i.fields = some f) (hb : s.busy = true) :
    exec i s = .next (raise .requestWhileBusy s) := by
  cases i <;>
    first
    | (simp only [exec, execInit, execWake, execSleep, execUpdateFull, execUpdatePartial, execDisplay,
        execUpdateAndDisplay, execLoadLuts, execClearFrame, execSetBg, execGetBg, execGetSize, execSetRotation,
        execGetRotation, execDrawPixel, execFbRead, execFbWrite, execFbFill, execRbufWrite]; exact takeRequest_busy hb)
    | cases hi

/-- Every wire command is the transmission of its own byte. -/
theorem exec_command {i : Instr} (hi : i.fields = none) (s : State) :
    exec i s = .next (transmit .cmd (opcode i) s) := by
  cases i <;> first | rfl | cases hi

/-! ## Memory access -/

theorem storeFb_of_lt {i : Nat} (h : i < FB_BYTES) (v : Byte) (s : State) :
    storeFb i v s = .next { s with fb := Memory.write (some FB_BLANK) i v s.fb } := by
  simp [storeFb, h]

theorem storeRbuf_of_lt {i : Nat} (h : i < RBUF_SIZE) (v : Byte) (s : State) :
    storeRbuf i v s = .next { s with rbuf := Memory.write none i v s.rbuf } := by
  simp [storeRbuf, h]

theorem loadFb_of_lt {i : Nat} (h : i < FB_BYTES) (k : Byte → State → Host.Outcome State Fault Refusal) (s : State) :
    loadFb i k s = k (fbByte s i) s := by
  simp [loadFb, h]

/-- A framebuffer byte in a state whose FB is another's after one write. -/
theorem fbByte_write {s t : State} {i : Nat} {v : Byte} (h : t.fb = Memory.write (some FB_BLANK) i v s.fb) (j : Nat) :
    fbByte t j = if j = i then v else fbByte s j := by
  unfold fbByte
  rw [h]
  split
  · next h => subst h; exact Memory.getD_find_write_same ..
  · next h => simp [Memory.find_write_other _ _ _ h]

/-- A framebuffer byte in a state whose FB was filled. -/
theorem fbByte_fill {t : State} {v : Byte} (h : t.fb = Memory.fill (some FB_BLANK) FB_BYTES v) {i : Nat}
    (hi : i < FB_BYTES) : fbByte t i = v := by
  unfold fbByte
  rw [h, Memory.getD_find_fill _ _ hi]

/-- A region buffer byte in a state whose RBUF is another's after one write. -/
theorem rbufByte_write {s t : State} {i : Nat} {v : Byte} (h : t.rbuf = Memory.write none i v s.rbuf)
    (hr : t.resets = s.resets) (j : Nat) : rbufByte t j = if j = i then v else rbufByte s j := by
  unfold rbufByte
  rw [h, hr]
  split
  · next h => subst h; simp [Memory.find_write_none_same]
  · next h => simp [Memory.find_write_other _ _ _ h]

/-- A framebuffer byte reads the same in two states with the same FB. -/
theorem fbByte_congr {s t : State} (h : t.fb = s.fb) (i : Nat) : fbByte t i = fbByte s i := by
  simp [fbByte, h]

/-- A region buffer byte reads the same in two states with the same RBUF and the same reset count. -/
theorem rbufByte_congr {s t : State} (h : t.rbuf = s.rbuf) (hr : t.resets = s.resets) (i : Nat) :
    rbufByte t i = rbufByte s i := by
  simp [rbufByte, h, hr]

/-! ## The environment -/

theorem nextAnswer_eq (s : State) : nextAnswer s = answerAt s 0 := by
  unfold nextAnswer answerAt
  cases s.env <;> simp

theorem answerAt_takeAnswer (s : State) (n : Nat) : answerAt (takeAnswer s) n = answerAt s (n + 1) := by
  unfold answerAt takeAnswer
  cases s.env <;> simp [Nat.add_assoc, Nat.add_comm 1 n]

/-- Answers depend on the environment's fields alone. -/
theorem answerAt_congr {s t : State} (he : t.env = s.env) (hd : t.draws = s.draws) (n : Nat) :
    answerAt t n = answerAt s n := by
  simp [answerAt, he, hd]

/-! ## Sequencer -/

/-- A transmission emits its event or raises TransportError. -/
theorem transmit_cases (k : TxKind) (b : Byte) (s : State) :
    ((nextAnswer s).txOk = true ∧ transmit k b s = emit (sentEvent k b) (takeAnswer s)) ∨
    ((nextAnswer s).txOk = false ∧ transmit k b s = raise (.transport k b) (takeAnswer s)) := by
  unfold transmit
  cases h : (nextAnswer s).txOk <;> simp

/-- A WAIT step polls on or returns. -/
theorem stepWait_cases (rest : List MicroOp) (s : State) :
    ((nextAnswer s).line = BUSY_ACTIVE_LEVEL ∧ stepWait rest s = { takeAnswer s with waiting := true }) ∨
    ((nextAnswer s).line ≠ BUSY_ACTIVE_LEVEL ∧
      stepWait rest s = { emit .wait (advance rest (takeAnswer s)) with waiting := false }) := by
  unfold stepWait
  by_cases h : (nextAnswer s).line = BUSY_ACTIVE_LEVEL <;> simp [h]

/-! ## Coordinates -/

/-- Inside the logical area both coordinates are natural numbers below its sides (20_memory.md R75). -/
theorem inArea_iff (r : Rotation) (x y : Int) :
    inArea r x y = true ↔ ∃ a b : Nat, x = a ∧ y = b ∧ a < (logicalSize r).1 ∧ b < (logicalSize r).2 := by
  simp only [inArea, Bool.and_eq_true, decide_eq_true_eq]
  constructor
  · rintro ⟨⟨⟨hx, hy⟩, hx'⟩, hy'⟩
    exact ⟨x.toNat, y.toNat, by omega, by omega, by omega, by omega⟩
  · rintro ⟨a, b, rfl, rfl, ha, hb⟩
    omega

/-- Every translated coordinate of the logical area is a pixel of the panel (20_memory.md R76). -/
theorem xlate_lt {r : Rotation} {x y : Nat} (hx : x < (logicalSize r).1) (hy : y < (logicalSize r).2) :
    (xlate r x y).1 < WIDTH ∧ (xlate r x y).2 < HEIGHT := by
  cases r <;> simp only [logicalSize, xlate, WIDTH, HEIGHT] at * <;> omega

/-- Every pixel of the panel is in a byte of FB (20_memory.md R73, R98). -/
theorem pixelIndex_lt {p : Nat × Nat} (hx : p.1 < WIDTH) (hy : p.2 < HEIGHT) : pixelIndex p < FB_BYTES := by
  simp only [pixelIndex, WIDTH, HEIGHT, ROW_BYTES, FB_BYTES] at *
  omega

/-- The byte a DRAW_PIXEL inside the logical area addresses exists (20_memory.md R78). -/
theorem pixelIndex_xlate_lt {r : Rotation} {x y : Int} (h : inArea r x y = true) :
    pixelIndex (xlate r x.toNat y.toNat) < FB_BYTES := by
  obtain ⟨a, b, rfl, rfl, ha, hb⟩ := (inArea_iff r x y).1 h
  exact pixelIndex_lt (xlate_lt ha hb).1 (xlate_lt ha hb).2

/-- The pixel write never faults: it leaves FB alone outside the logical area, else writes one byte. -/
theorem drawPixel_cases (s : State) :
    (inArea s.rot s.lat.x.toInt s.lat.y.toInt = false ∧ drawPixel s = .next s) ∨
    (inArea s.rot s.lat.x.toInt s.lat.y.toInt = true ∧
      drawPixel s = .next (
        let p := xlate s.rot s.lat.x.toInt.toNat s.lat.y.toInt.toNat
        { s with fb := Memory.write (some FB_BLANK) (pixelIndex p)
                   (setPixelBit (fbByte s (pixelIndex p)) (pixelBit p) s.lat.color) s.fb })) := by
  unfold drawPixel
  cases h : inArea s.rot s.lat.x.toInt s.lat.y.toInt
  · exact .inl ⟨rfl, if_neg (by simp [h])⟩
  · have hi := pixelIndex_xlate_lt h
    exact .inr ⟨rfl, (if_pos h).trans (by rw [loadFb_of_lt hi, storeFb_of_lt hi])⟩

/-- Setting a pixel's bit gives that bit the colour and keeps the other seven (40_framebuffer.md R135). -/
theorem getLsbD_setPixelBit {k j : Nat} (b : Byte) (c : Colour) (hk : k < 8) (hj : j < 8) :
    (setPixelBit b k c).getLsbD j = if j = k then decide (c = .white) else b.getLsbD j := by
  have h1 : (1#8).getLsbD (j - k) = decide (j ≤ k) := by
    rw [BitVec.getLsbD_one]; simp; omega
  rcases Nat.lt_trichotomy j k with h | rfl | h
  · cases c <;> simp [setPixelBit, Colour.bit, hj, h, h.ne]
  · cases c <;> simp [setPixelBit, Colour.bit, hj]
  · have h2 : ¬ j ≤ k := by omega
    have h3 : ¬ j < k := by omega
    cases c <;> simp_all [setPixelBit, Colour.bit, h.ne']

/-! ## The sequencer's and the host's moves -/

/-- With no host action left the sequencer moves. -/
theorem step_of_todo_nil {s : State} (h : s.todo = []) : step s = sequencerStep s := by
  simp [step, nextMove, h]

/-- The host's next action is what happens next. -/
theorem step_of_todo_cons {s : State} {a : HostAction} {rest : List HostAction} (h : s.todo = a :: rest) :
    step s = hostStep a rest s := by
  simp [step, nextMove, h]

end Sys2Proof.Machine
end

