-- ==== Sys2Proof/Laws/Requests.lean ====
section
/-! SUPPORT. What a micro-sequence is made of, and once for all nineteen requests everything `exec` can do with one. -/

namespace Sys2Proof.Machine

/-! ## Micro-sequences -/

/-- Micro-ops that hold no DONE and only commands the block sends. -/
def SequenceBody (ops : List MicroOp) : Prop :=
  (∀ m, MicroOp.finish m ∉ ops) ∧ ∀ b, MicroOp.cmd b ∈ ops → SentCommand b

theorem SequenceBody.append {a b : List MicroOp} (ha : SequenceBody a) (hb : SequenceBody b) : SequenceBody (a ++ b) :=
  ⟨fun m h => (List.mem_append.1 h).elim (ha.1 m) (hb.1 m), fun c h => (List.mem_append.1 h).elim (ha.2 c) (hb.2 c)⟩

theorem sequenceBody_data (bs : List Byte) : SequenceBody (data bs) := ⟨by simp [data], by simp [data]⟩

theorem sequenceBody_wait : SequenceBody [.wait] := ⟨by simp, by simp⟩

theorem sequenceBody_reset (n d : Nat) : SequenceBody [.reset n d] := ⟨by simp, by simp⟩

theorem sequenceBody_cmd {c : Instr} (h : decode (.command (opcode c)) = .ok c) (hw : WellFormed c = true) :
    SequenceBody (cmd c) :=
  ⟨by simp [cmd], by simp only [cmd, List.mem_singleton, MicroOp.cmd.injEq]; rintro _ rfl; exact ⟨c, h, hw⟩⟩

theorem sequenceBody_lutSeq : SequenceBody lutSeq := by
  unfold lutSeq cmdWithData
  repeat' first
    | exact sequenceBody_wait | exact sequenceBody_data _ | exact sequenceBody_cmd rfl rfl | apply SequenceBody.append

theorem sequenceBody_initSeq : SequenceBody initSeq := by
  unfold initSeq powerOptWrite cmdWithData
  repeat' first
    | exact sequenceBody_lutSeq | exact sequenceBody_reset _ _ | exact sequenceBody_wait
    | exact sequenceBody_data _ | exact sequenceBody_cmd rfl rfl | apply SequenceBody.append

theorem sequenceBody_sleepSeq : SequenceBody sleepSeq := by
  unfold sleepSeq cmdWithData
  repeat' first | exact sequenceBody_data _ | exact sequenceBody_cmd rfl rfl | apply SequenceBody.append

theorem sequenceBody_fullSeq (bs : List Byte) : SequenceBody (fullSeq bs) :=
  .append (.append (sequenceBody_cmd rfl rfl) (sequenceBody_data _)) (sequenceBody_cmd rfl rfl)

theorem sequenceBody_displaySeq : SequenceBody displaySeq := .append (sequenceBody_cmd rfl rfl) sequenceBody_wait

theorem sequenceBody_partialSeq (l : Latch) (bs : List Byte) : SequenceBody (partialSeq l bs) := by
  unfold partialSeq
  repeat' first
    | exact sequenceBody_wait | exact sequenceBody_data _ | exact sequenceBody_cmd rfl rfl | apply SequenceBody.append

/-! ## Requests -/

/-- `t` is `s` after the accepted local request `i`: the error code is cleared, canonical memories stay canonical, BG
and ROT have one writer each, and nothing outside the local state changes. -/
def LocalDone (i : Instr) (f : ReqFields) (s t : State) : Prop :=
  ∃ fb rbuf bg rot result lat,
    t = { s with lastErr := .none, fb := fb, rbuf := rbuf, bg := bg, rot := rot, result := result, lat := lat } ∧
    (Memory.wf (some FB_BLANK) FB_BYTES s.fb = true → Memory.wf (some FB_BLANK) FB_BYTES fb = true) ∧
    (Memory.wf none RBUF_SIZE s.rbuf = true → Memory.wf none RBUF_SIZE rbuf = true) ∧
    (bg = s.bg ∨ (i = .setBg f ∧ bg = f.color)) ∧ (rot = s.rot ∨ (i = .setRotation f ∧ rot = f.rotf))

/-- `t` is `s` after the acceptance of a wire request. -/
def WireStarted (s t : State) : Prop :=
  ∃ ops m lat, t = { s with lastErr := .none, lat := lat, seq := ops ++ [.finish m], upc := 0, busy := true } ∧
    LegalEnd m ∧ SequenceBody ops

/-- Everything a decoded request can do: the three refusals, a local effect, the start of a micro-sequence. -/
def RequestResult (i : Instr) (f : ReqFields) (s t : State) : Prop :=
  (s.busy = true ∧ t = raise .requestWhileBusy s) ∨ (s.busy = false ∧ t = raise .modeFault s) ∨
  (s.busy = false ∧ t = raise .bufferIndexFault s) ∨ (s.busy = false ∧ LocalDone i f s t) ∨
  (s.busy = false ∧ WireStarted s t)

theorem takeRequest_result {i : Instr} {f : ReqFields} {acc : Mode → Bool} {out : State → Bool} {latch : State → State}
    {run : State → Host.Outcome State Fault Refusal} {s : State}
    (h : out s = false → ∃ t, run (latch (clearError s)) = .next t ∧ (LocalDone i f s t ∨ WireStarted s t)) :
    ∃ t, takeRequest acc out latch run s = .next t ∧ RequestResult i f s t := by
  rcases takeRequest_cases acc out latch run s with ⟨hb, h1⟩ | ⟨hb, _, h1⟩ | ⟨hb, _, _, h1⟩ | ⟨hb, _, ho, h1⟩
  · exact ⟨_, h1, .inl ⟨hb, rfl⟩⟩
  · exact ⟨_, h1, .inr (.inl ⟨hb, rfl⟩)⟩
  · exact ⟨_, h1, .inr (.inr (.inl ⟨hb, rfl⟩))⟩
  · obtain ⟨t, ht, h2⟩ := h ho
    exact ⟨t, h1.trans ht, .inr (.inr (.inr (h2.imp (⟨hb, ·⟩) (⟨hb, ·⟩))))⟩

/-- A request always answers a next state, and this is all it can be. -/
theorem exec_request {i : Instr} {f : ReqFields} (s : State) (hi : i.fields = some f) :
    ∃ t, exec i s = .next t ∧ RequestResult i f s t := by
  cases i <;> cases hi
  case init =>
    simp only [exec, execInit]; refine takeRequest_result ?_
    exact fun _ => ⟨_, rfl, .inr ⟨_, _, _, rfl, .inr (.inl rfl), sequenceBody_initSeq⟩⟩
  case wake =>
    simp only [exec, execWake]; refine takeRequest_result ?_
    exact fun _ => ⟨_, rfl, .inr ⟨_, _, _, rfl, .inr (.inl rfl), sequenceBody_initSeq⟩⟩
  case sleep =>
    simp only [exec, execSleep]; refine takeRequest_result ?_
    exact fun _ => ⟨_, rfl, .inr ⟨_, _, _, rfl, .inr (.inr rfl), sequenceBody_sleepSeq⟩⟩
  case updateFull =>
    simp only [exec, execUpdateFull]; refine takeRequest_result ?_
    exact fun _ => ⟨_, rfl, .inr ⟨_, _, _, rfl, .inl rfl, sequenceBody_fullSeq _⟩⟩
  case updatePartial =>
    simp only [exec, execUpdatePartial]; refine takeRequest_result ?_
    exact fun _ => ⟨_, rfl, .inr ⟨_, _, _, rfl, .inl rfl, sequenceBody_partialSeq _ _⟩⟩
  case display =>
    simp only [exec, execDisplay]; refine takeRequest_result ?_
    exact fun _ => ⟨_, rfl, .inr ⟨_, _, _, rfl, .inl rfl, sequenceBody_displaySeq⟩⟩
  case updateAndDisplay =>
    simp only [exec, execUpdateAndDisplay]; refine takeRequest_result ?_
    exact fun _ => ⟨_, rfl, .inr ⟨_, _, _, rfl, .inl rfl, .append (sequenceBody_fullSeq _) sequenceBody_displaySeq⟩⟩
  case loadLuts =>
    simp only [exec, execLoadLuts]; refine takeRequest_result ?_
    exact fun _ => ⟨_, rfl, .inr ⟨_, _, _, rfl, .inl rfl, sequenceBody_lutSeq⟩⟩
  case clearFrame =>
    simp only [exec, execClearFrame]; refine takeRequest_result ?_
    exact fun _ => ⟨_, rfl, .inr ⟨_, _, _, rfl, .inl rfl, sequenceBody_fullSeq _⟩⟩
  case setBg =>
    simp only [exec, execSetBg]; refine takeRequest_result ?_
    exact fun _ => ⟨_, rfl, .inl ⟨_, _, _, _, _, _, rfl, id, id, .inr ⟨rfl, rfl⟩, .inl rfl⟩⟩
  case getBg =>
    simp only [exec, execGetBg]; refine takeRequest_result ?_
    exact fun _ => ⟨_, rfl, .inl ⟨_, _, _, _, _, _, rfl, id, id, .inl rfl, .inl rfl⟩⟩
  case getSize =>
    simp only [exec, execGetSize]; refine takeRequest_result ?_
    exact fun _ => ⟨_, rfl, .inl ⟨_, _, _, _, _, _, rfl, id, id, .inl rfl, .inl rfl⟩⟩
  case setRotation =>
    simp only [exec, execSetRotation]; refine takeRequest_result ?_
    exact fun _ => ⟨_, rfl, .inl ⟨_, _, _, _, _, _, rfl, id, id, .inl rfl, .inr ⟨rfl, rfl⟩⟩⟩
  case getRotation =>
    simp only [exec, execGetRotation]; refine takeRequest_result ?_
    exact fun _ => ⟨_, rfl, .inl ⟨_, _, _, _, _, _, rfl, id, id, .inl rfl, .inl rfl⟩⟩
  case fbFill =>
    simp only [exec, execFbFill]; refine takeRequest_result ?_
    exact fun _ => ⟨_, rfl, .inl ⟨_, _, _, _, _, _, rfl, fun _ => Memory.fill_wf _ _ _, id, .inl rfl, .inl rfl⟩⟩
  case drawPixel =>
    refine takeRequest_result fun _ => ?_
    rcases drawPixel_cases (latchPoint 0x15#8 f (clearError s)) with ⟨_, h⟩ | ⟨hin, h⟩
    · exact ⟨_, h, .inl ⟨_, _, _, _, _, _, rfl, id, id, .inl rfl, .inl rfl⟩⟩
    · exact ⟨_, h, .inl ⟨_, _, _, _, _, _, rfl, fun hw => Memory.write_wf _ (pixelIndex_xlate_lt hin) hw, id,
        .inl rfl, .inl rfl⟩⟩
  case fbRead =>
    refine takeRequest_result fun ho => ?_
    have hlt : (latchIndex 0x16#8 f (clearError s)).lat.idx.toNat < FB_BYTES := Nat.lt_of_not_le (of_decide_eq_false ho)
    exact ⟨_, loadFb_of_lt hlt _ _, .inl ⟨_, _, _, _, _, _, rfl, id, id, .inl rfl, .inl rfl⟩⟩
  case fbWrite =>
    refine takeRequest_result fun ho => ?_
    have hlt : (latchIndex 0x17#8 f (clearError s)).lat.idx.toNat < FB_BYTES := Nat.lt_of_not_le (of_decide_eq_false ho)
    exact ⟨_, storeFb_of_lt hlt _ _, .inl ⟨_, _, _, _, _, _, rfl, fun hw => Memory.write_wf _ hlt hw, id, .inl rfl, .inl rfl⟩⟩
  case rbufWrite =>
    refine takeRequest_result fun ho => ?_
    have hlt : (latchIndex 0x19#8 f (clearError s)).lat.idx.toNat < RBUF_SIZE := Nat.lt_of_not_le (of_decide_eq_false ho)
    exact ⟨_, storeRbuf_of_lt hlt _ _, .inl ⟨_, _, _, _, _, _, rfl, id, fun hw => Memory.write_wf _ hlt hw, .inl rfl, .inl rfl⟩⟩

end Sys2Proof.Machine
end

