-- ==== Sys2Proof/Laws/Steps.lean ====
section
/-! SUPPORT. Once everything a step can do, and the small lemmas of runs. -/

namespace Sys2Proof.Machine

/-- The micro-op that sends a byte of a kind. -/
def sendOp : TxKind → Byte → MicroOp
  | .cmd, b => .cmd b
  | .data, b => .data b

/-- Every next state of a step, by what moved: the host alone, a request, hardware reset, or the sequencer at its head
micro-op. -/
inductive Move (s : State) : State → Prop
  | hostOnly {rest hd} (t : State) (e : t = { s with todo := rest, hostData := hd }) : Move s t
  | argWrite {rest a0 a1 a2} (t : State) (e : t = { s with todo := rest, arg0 := a0, arg1 := a1, arg2 := a2 }) : Move s t
  | request {rest w i f} (t : State) (ht : s.todo = .write 0x00#5 w :: rest) (hd : decode (.request w) = .ok i)
      (hf : i.fields = some f) (hr : RequestResult i f { s with todo := rest, req0 := w } t) : Move s t
  | noRequest {rest w} (t : State) (ht : s.todo = .write 0x00#5 w :: rest)
      (e : t = raise (if s.busy then .requestWhileBusy else .illegalRequest) { s with todo := rest, req0 := w }) : Move s t
  | hardwareReset {rest} (t : State) (ht : s.todo = .hardwareReset :: rest)
      (e : t = Machine.hardwareReset { s with todo := rest }) : Move s t
  | send {k b rest td hd} (t : State) (hs : s.seq = sendOp k b :: rest)
      (e : t = transmit k b (advance rest { s with todo := td, hostData := hd })) : Move s t
  | wait {rest td hd} (t : State) (hs : s.seq = .wait :: rest)
      (e : t = stepWait rest { s with todo := td, hostData := hd }) : Move s t
  | reset {n d rest td hd} (t : State) (hs : s.seq = .reset n d :: rest)
      (e : t = stepReset n d rest { s with todo := td, hostData := hd }) : Move s t
  | finish {m rest td hd} (t : State) (hs : s.seq = .finish m :: rest)
      (e : t = stepFinish m { s with todo := td, hostData := hd }) : Move s t

theorem move_of_sequencerStep {s t : State} {td : List HostAction} {hd : Word}
    (h : sequencerStep { s with todo := td, hostData := hd } = .next t) : Move s t := by
  unfold sequencerStep at h
  simp only [] at h
  split at h
  · cases h; exact .hostOnly _ rfl
  · next b rest hs =>
    split at h
    · next i hi =>
      rw [exec_command (fields_of_decode_command hi), opcode_of_decode_command hi] at h
      cases h; exact .send (k := .cmd) _ hs rfl
    · cases h
  · next b rest hs => cases h; exact .send (k := .data) _ hs rfl
  · next rest hs => cases h; exact .wait _ hs rfl
  · next n d rest hs => cases h; exact .reset _ hs rfl
  · next m rest hs => cases h; exact .finish _ hs rfl

/-- Every next state of a step is one of these moves. -/
theorem move_of_step {s t : State} (h : step s = .next t) : Move s t := by
  unfold step nextMove at h
  split at h
  · exact move_of_sequencerStep (td := s.todo) (hd := s.hostData) h
  · next a rest ht =>
    cases a with
    | write off v =>
      simp only [hostStep, hostWrite] at h
      split at h
      · next ho =>
        subst ho
        unfold issueRequest at h
        split at h
        · next i hi =>
          obtain ⟨u, hu, hr⟩ := exec_request { s with todo := rest, req0 := v } (fields_of_decode_request hi)
          cases hu.symm.trans h
          exact .request _ ht hi (fields_of_decode_request hi) hr
        · cases h; exact .noRequest _ ht rfl
      · next ho =>
        cases h
        unfold writeReg
        split
        · exact absurd rfl ho
        · exact .argWrite _ rfl
        · exact .argWrite _ rfl
        · exact .argWrite _ rfl
        · exact .argWrite (a0 := s.arg0) (a1 := s.arg1) (a2 := s.arg2) _ rfl
    | read off => cases h; exact .hostOnly _ rfl
    | hardwareReset => cases h; exact .hardwareReset _ ht rfl
    | pass => exact move_of_sequencerStep (td := rest) (hd := s.hostData) h
    | waitDone =>
      simp only [hostStep, hostPoll] at h
      split at h
      · exact move_of_sequencerStep (td := s.todo) h
      · cases h; exact .hostOnly _ rfl

/-- A sending step, from the step's own state. -/
theorem send_cases {s t : State} {k : TxKind} {b : Byte} {rest : List MicroOp} {td : List HostAction} {hd : Word}
    (e : t = transmit k b (advance rest { s with todo := td, hostData := hd })) :
    ((answerAt s 0).txOk = true ∧ t = { s with
      todo := td, hostData := hd, seq := rest, upc := s.upc + 1, trace := s.trace ++ [sentEvent k b]
      env := s.env.tail, draws := s.draws + 1 }) ∨
    ((answerAt s 0).txOk = false ∧ t = { s with
      todo := td, hostData := hd, trace := s.trace ++ [.txFail k b], lastErr := .transportError, stickyTx := true
      mode := .indeterminate, seq := [], upc := 0, busy := false, waiting := false
      env := s.env.tail, draws := s.draws + 1 }) := by
  subst e
  rw [← nextAnswer_eq]
  rcases transmit_cases k b (advance rest { s with todo := td, hostData := hd }) with ⟨h, e⟩ | ⟨h, e⟩
  · exact .inl ⟨h, e⟩
  · exact .inr ⟨h, e⟩

/-- A WAIT step, from the step's own state. -/
theorem wait_cases {s t : State} {rest : List MicroOp} {td : List HostAction} {hd : Word}
    (e : t = stepWait rest { s with todo := td, hostData := hd }) :
    ((answerAt s 0).line = BUSY_ACTIVE_LEVEL ∧
      t = { s with todo := td, hostData := hd, waiting := true, env := s.env.tail, draws := s.draws + 1 }) ∨
    ((answerAt s 0).line ≠ BUSY_ACTIVE_LEVEL ∧ t = { s with
      todo := td, hostData := hd, waiting := false, seq := rest, upc := s.upc + 1, trace := s.trace ++ [.wait]
      env := s.env.tail, draws := s.draws + 1 }) := by
  subst e
  rw [← nextAnswer_eq]
  rcases stepWait_cases rest { s with todo := td, hostData := hd } with ⟨h, e⟩ | ⟨h, e⟩
  · exact .inl ⟨h, e⟩
  · exact .inr ⟨h, e⟩

/-! ## Runs -/

theorem steps_add {m n : Nat} {s t : State} (h : steps m s = .next t) : steps (m + n) s = steps n t := by
  induction m generalizing s with
  | zero => cases h; rw [Nat.zero_add]
  | succ m ih =>
    rw [Nat.add_right_comm, steps]
    rw [steps] at h
    cases hs : step s with
    | next u => rw [hs] at h; exact ih h
    | fault r => rw [hs] at h; cases h
    | refused r => rw [hs] at h; cases h

theorem steps_one (s : State) : steps 1 s = step s := by
  rw [steps]
  cases step s <;> rfl

/-- A host write of any register but REQ0 stores the word and nothing else moves. -/
theorem step_of_argWrite {s : State} {off : BitVec 5} {v : Word} {rest : List HostAction}
    (h : s.todo = .write off v :: rest) (ho : off ≠ 0x00#5) : step s = .next (writeReg off v { s with todo := rest }) :=
  (step_of_todo_cons h).trans (if_neg ho)

/-- While the sequencer runs, a step is the sequencer's, the host's read of STATUS beside it where it polls. -/
theorem step_of_sequencerRuns {s : State} (h : SequencerRuns s) :
    ∃ hd, (s.todo = [] → hd = s.hostData) ∧ step s = sequencerStep { s with hostData := hd } := by
  rcases h with ht | ⟨hb, rest, ht⟩
  · exact ⟨s.hostData, fun _ => rfl, step_of_todo_nil ht⟩
  · refine ⟨statusWord s, fun h => absurd (h.symm.trans ht) (by simp), ?_⟩
    rw [step_of_todo_cons ht]
    exact if_pos hb

/-- What keeps the host's actions and BUSY keeps the sequencer running. -/
theorem SequencerRuns.congr {s t : State} (h : SequencerRuns s) (ht : t.todo = s.todo) (hb : t.busy = s.busy) :
    SequencerRuns t := by
  unfold SequencerRuns
  rwa [ht, hb]

theorem resetCount_cons (op : MicroOp) (ops : List MicroOp) :
    resetCount (op :: ops) = (if op.isReset then 1 else 0) + resetCount ops := by
  cases op <;> simp +arith [resetCount, List.filter_cons, MicroOp.isReset]

theorem successEvents_cons (op : MicroOp) (ops : List MicroOp) :
    successEvents (op :: ops) = op.event.toList ++ successEvents ops := by
  cases op <;> rfl

theorem successEvents_append (a b : List MicroOp) : successEvents (a ++ b) = successEvents a ++ successEvents b := by
  simp [successEvents]

end Sys2Proof.Machine
end

