-- ==== Sys2Proof/Tests/Slice0.lean ====
section
/-! SUPPORT. Small tests of the model, each with its source in spec/, and for every statement with hypotheses a concrete
state and operands that meet them. -/

namespace Sys2Proof.Tests

open Sys2Proof.Machine

/-! ## Helpers -/

/-- The fields of a request word, for tests. -/
def fields (c : Colour := .black) (r : Rotation := .deg0) (l : BitVec 8 := 0#8) : ReqFields :=
  { color := c, rotf := r, lutsel := l }

/-- The next state of an outcome, if it has one. -/
def nextOf (o : Host.Outcome State Fault Refusal) : Option State :=
  match o with
  | .next t => some t
  | .fault _ => none
  | .refused _ => none

/-- The state after the step that takes the request word. -/
def afterRequest (s : State) (w : Word) : Option State := nextOf (step (s.withFetchWord 32 w.toNat))

/-- The state after the step that takes the command byte. -/
def afterCommand (s : State) (b : Byte) : Option State := nextOf (step (s.withFetchWord 8 b.toNat))

/-- The reset state in MODE Active. -/
def active : State := { State.reset with mode := .active }

/-- An answer that delivers and reads idle. -/
def good : EnvAnswer := { txOk := true, line := 1#1 }

/-- An answer that fails a transmission. -/
def failing : EnvAnswer := { txOk := false, line := 1#1 }

/-- An answer that reads busy. -/
def busyLine : EnvAnswer := { txOk := true, line := 0#1 }

/-- A request in flight in MODE Active. -/
def inFlight (ops : List MicroOp) (env : List EnvAnswer) : State :=
  { active with seq := ops, busy := true, env := env }

/-! ## Well-formedness: each check refuses an ill-formed term -/

/-- A colour where none is read. -/
theorem test_wellFormed_refuses_color : WellFormed (.init (fields .white)) = false := by decide

/-- An orientation where none is read. -/
theorem test_wellFormed_refuses_rotf : WellFormed (.setBg (fields .white .deg90)) = false := by decide

/-- A selector where none is read. -/
theorem test_wellFormed_refuses_lutsel : WellFormed (.setRotation (fields .black .deg90 1#8)) = false := by decide

/-- A colour beside the selector LOAD_LUTS reads. -/
theorem test_wellFormed_refuses_loadLuts_color : WellFormed (.loadLuts (fields .white .deg0 1#8)) = false := by decide

/-- The command no micro-sequence sends. -/
theorem test_wellFormed_refuses_unsent : WellFormed .dataStartTransmission1 = false := by decide

/-- The fields a request reads are allowed. -/
theorem test_wellFormed_accepts : WellFormed (.drawPixel (fields .white)) = true ∧
    WellFormed (.setRotation (fields .black .deg270)) = true ∧ WellFormed (.loadLuts (fields .black .deg0 255#8)) = true :=
  by decide

/-- An operand over its field makes an assembler line ill-formed (30_encoding.md R102). -/
theorem test_line_refuses_out_of_range :
    [Line.updatePartial 65536 0 0 0 0, .updatePartial 0 0 0 0 (-1), .loadLuts 256, .drawPixel 32768 0 .black,
      .drawPixel 0 (-32769) .black, .fbRead 65536, .fbWrite 0 256, .rbufWrite 0 (-1)].map Line.wellFormed =
    List.replicate 8 false := by decide

/-! ## Decoding: words written out from 30_encoding.md R91, R92, R100, R104 -/

/-- What the decoder reads from request words: bits 31:24, LUTSEL, 15:11, ROTF, COLOR, OP. -/
def requestsOf (ws : List Word) : List (Option Instr) := ws.map fun w => (decode (.request w)).toOption

/-- What the decoder reads from command bytes. -/
def commandsOf (bs : List Byte) : List (Option Instr) := bs.map fun b => (decode (.command b)).toOption

theorem test_decode_lifecycle : requestsOf
    [0b00000000_00000000_00000_00_0_00000001#32, 0b00000000_00000000_00000_00_0_00000010#32,
     0b00000000_00000000_00000_00_0_00000011#32, 0b00000000_00000001_00000_00_0_00001000#32] =
    [some (.init (fields)), some (.wake (fields)), some (.sleep (fields)), some (.loadLuts (fields .black .deg0 1#8))] :=
  by decide

theorem test_decode_transfer : requestsOf
    [0b00000000_00000000_00000_00_0_00000100#32, 0b00000000_00000000_00000_00_0_00000101#32,
     0b00000000_00000000_00000_00_0_00000110#32, 0b00000000_00000000_00000_00_0_00000111#32,
     0b00000000_00000000_00000_00_0_00001001#32] =
    [some (.updateFull (fields)), some (.updatePartial (fields)), some (.display (fields)),
     some (.updateAndDisplay (fields)), some (.clearFrame (fields))] := by decide

theorem test_decode_framebuffer : requestsOf
    [0b00000000_00000000_00000_00_1_00010000#32, 0b00000000_00000000_00000_00_0_00010001#32,
     0b00000000_00000000_00000_00_0_00010010#32, 0b00000000_00000000_00000_11_0_00010011#32,
     0b00000000_00000000_00000_00_0_00010100#32, 0b00000000_00000000_00000_00_1_00010101#32,
     0b00000000_00000000_00000_00_0_00010110#32, 0b00000000_00000000_00000_00_0_00010111#32,
     0b00000000_00000000_00000_00_0_00011000#32, 0b00000000_00000000_00000_00_0_00011001#32] =
    [some (.setBg (fields .white)), some (.getBg (fields)), some (.getSize (fields)),
     some (.setRotation (fields .black .deg270)), some (.getRotation (fields)), some (.drawPixel (fields .white)),
     some (.fbRead (fields)), some (.fbWrite (fields)), some (.fbFill (fields)), some (.rbufWrite (fields))] := by decide

theorem test_decode_commands : commandsOf
    [0x00#8, 0x01#8, 0x02#8, 0x04#8, 0x06#8, 0x07#8, 0x10#8, 0x11#8, 0x12#8, 0x13#8, 0x14#8, 0x16#8] =
    [some .panelSetting, some .powerSetting, some .powerOff, some .powerOn, some .boosterSoftStart, some .deepSleep,
     some .dataStartTransmission1, some .dataStop, some .displayRefresh, some .dataStartTransmission2,
     some .partialDataStartTransmission1, some .partialDisplayRefresh] := by decide

theorem test_decode_commands_setup : commandsOf
    [0x20#8, 0x21#8, 0x22#8, 0x23#8, 0x24#8, 0x30#8, 0x50#8, 0x82#8, 0xF8#8] =
    [some .lutVcom, some .lutWw, some .lutBw, some .lutWb, some .lutBb, some .pllControl,
     some .vcomAndDataIntervalSetting, some .vcmDcSetting, some .powerOptimization] := by decide

/-- Reserved codes and fields, and bytes of no command, are rejected by name (R93, R94, R101). -/
theorem test_decode_rejects :
    decode (.request 0x0000000A#32) = .error .reservedOperation ∧
    decode (.request 0x00000804#32) = .error .reservedField ∧
    decode (.request 0x01000004#32) = .error .reservedField ∧
    decode (.command 0x03#8) = .error .notACommand := ⟨rfl, rfl, rfl, rfl⟩

/-- The words of 30_encoding.md R104 from their lines, and the operands of 95_test_vectors.md L2-50. -/
theorem test_assemble_update_partial : parseLine "UPDATE_PARTIAL 8, 0, 16, 4, 8".toList = some (.updatePartial 8 0 16 4 8) ∧
    assemble (.updatePartial 8 0 16 4 8) =
      [.write 0x04#5 0x00000008#32, .write 0x08#5 0x00040010#32, .write 0x0C#5 0x00000008#32,
       .write 0x00#5 0x00000005#32, .waitDone] := by decide

/-! ## Local requests (95_test_vectors.md section 2.2) -/

/-- L2-29j. -/
theorem test_setBg : (afterRequest State.reset 0x00000010#32).map (·.bg) = some .black := by decide

/-- L2-29n and R143. -/
theorem test_getBg : (afterRequest State.reset 0x00000011#32).map (·.result) = some 1#32 := by decide

/-- L2-29k. -/
theorem test_getSize : (afterRequest { State.reset with rot := .deg90 } 0x00000012#32).map (·.result) =
    some 0x00B00108#32 := by decide

/-- R104. -/
theorem test_setRotation : (afterRequest State.reset 0x00000613#32).map (·.rot) = some .deg270 := by decide

/-- L2-29l. -/
theorem test_getRotation : (afterRequest { State.reset with rot := .deg270 } 0x00000014#32).map (·.result) =
    some 3#32 := by decide

/-- L2-23: (0, 0) under 90 degrees is the pixel (263, 0). -/
theorem test_drawPixel_rotated : (afterRequest { State.reset with rot := .deg90 } 0x00000015#32).map (·.fb) =
    some [(32, 0xFE#8)] := by decide

/-- L2-29d: a negative coordinate changes nothing and is no error. -/
theorem test_drawPixel_outside :
    (afterRequest { State.reset with arg0 := 0x0000FFFF#32, lastErr := .modeFault } 0x00000015#32).map
      (fun t => (t.fb, t.lastErr)) = some ([], .none) := by decide

/-- L2-29h. -/
theorem test_fbRead : (afterRequest { State.reset with arg0 := 0x000016AF#32, fb := [(5807, 0x5A#8)] } 0x00000016#32).map
    (·.result) = some 0x0000005A#32 := by decide

/-- L2-9. -/
theorem test_fbRead_outside : (afterRequest { State.reset with arg0 := 0x000016B0#32 } 0x00000016#32).map
    (fun t => (t.result, statusWord t)) = some (0#32, 0x00000240#32) := by decide

/-- L2-29h. -/
theorem test_fbWrite :
    (afterRequest { State.reset with arg0 := 0x000016AF#32, arg1 := 0x0000005A#32 } 0x00000017#32).map (·.fb) =
    some [(5807, 0x5A#8)] := by decide

/-- Writing the byte an unlisted index reads as takes the entry off. -/
theorem test_fbWrite_blank :
    (afterRequest { State.reset with arg1 := 0x000000FF#32, fb := [(0, 0x5A#8)] } 0x00000017#32).map (·.fb) =
    some [] := by decide

/-- L2-29i: white restores the reset contents. -/
theorem test_fbFill_white : (afterRequest { State.reset with fb := [(0, 0x5A#8)] } 0x00000118#32).map (·.fb) =
    some [] := by decide

/-- R145, with the byte as it is written. -/
theorem test_rbufWrite : (afterRequest { State.reset with arg1 := 0x000000F0#32 } 0x00000019#32).map
    (fun t => (t.rbuf, t.fb)) = some ([(0, 0xF0#8)], []) := by decide

/-- L2-29m. -/
theorem test_rbufWrite_outside : (afterRequest { State.reset with arg0 := 0x000016B0#32 } 0x00000019#32).map
    (fun t => (t.rbuf, t.lastErr)) = some ([], .bufferIndexFault) := by decide

/-! ## Wire requests (95_test_vectors.md sections 2.3, 2.4) -/

/-- L2-6: INIT with fields it ignores. -/
theorem test_init : (afterRequest State.reset 0x00000701#32).map (fun t => (t.busy, t.seq.take 3)) =
    some (true, [.reset 2 Config.resetDelayMs, .cmd 0x01#8, .data 0x03#8]) := rfl

/-- L2-34. -/
theorem test_wake_refused : (afterRequest active 0x00000002#32).map (fun t => (t.seq, statusWord t)) =
    some ([], 0x00000234#32) := by decide

/-- L2-36. -/
theorem test_wake : (afterRequest { State.reset with mode := .indeterminate } 0x00000002#32).map (·.seq.take 2) =
    some [.reset 2 Config.resetDelayMs, .cmd 0x01#8] := rfl

/-- L2-37, as the micro-sequence. -/
theorem test_sleep : (afterRequest active 0x00000003#32).map (·.seq) =
    some [.cmd 0x50#8, .data Config.pCdi, .cmd 0x02#8, .cmd 0x07#8, .data 0xA5#8, .finish (some .sleeping)] := rfl

/-- L2-39. -/
theorem test_loadLuts : (afterRequest active 0x00FF0008#32).map (·.seq.take 2) = some [.wait, .cmd 0x20#8] := rfl

/-- L2-41 on a short frame: each byte inverted, in order, between the two commands. -/
theorem test_fullSeq : fullSeq [0x7F#8, 0xFF#8, 0x5A#8] =
    [.cmd 0x13#8, .data 0x80#8, .data 0x00#8, .data 0xA5#8, .cmd 0x11#8] := by decide

/-- L2-40: the request starts with its command. -/
theorem test_updateFull : (afterRequest active 0x00000004#32).map (·.seq.take 1) = some [.cmd 0x13#8] := rfl

/-- L2-51: the whole micro-sequence of an empty region. -/
theorem test_updatePartial :
    (afterRequest { active with arg0 := 0x00AF0107#32, arg1 := 0x00010009#32 } 0x00000005#32).map (·.seq) =
    some [.cmd 0x14#8, .data 0x01#8, .data 0x00#8, .data 0x00#8, .data 0xAF#8, .data 0x00#8, .data 0x08#8, .data 0x00#8,
      .data 0x01#8, .wait, .cmd 0x11#8, .finish none] := by decide

/-- L2-53: one region byte, inverted. -/
theorem test_updatePartial_byte :
    (afterRequest { active with arg2 := 1#32, rbuf := [(0, 0xAA#8)] } 0x00000005#32).map (·.seq.drop 9) =
    some [.wait, .data 0x55#8, .cmd 0x11#8, .finish none] := by decide

/-- L2-55. -/
theorem test_display : (afterRequest active 0x00000006#32).map (·.seq) = some [.cmd 0x12#8, .wait, .finish none] := by
  decide

/-- L2-56: the request starts with its command and latches its operation. -/
theorem test_updateAndDisplay : (afterRequest active 0x00000007#32).map (fun t => (t.seq.take 1, t.lat.op)) =
    some ([.cmd 0x13#8], 0x07#8) := rfl

/-- L2-59, the first bytes. -/
theorem test_clearFrame : (afterRequest { active with bg := .black } 0x00000009#32).map (·.seq.take 2) =
    some [.cmd 0x13#8, .data 0xFF#8] := rfl

/-! ## Wire commands and micro-ops -/

/-- Every command byte of R100, delivered, is one `Cmd` event. -/
theorem test_commands_delivered :
    (Expected.commandBytes.map fun row => (afterCommand { active with env := [good] } row.2).map (·.trace)) =
    Expected.commandBytes.map fun row => some [.cmd row.2] := by decide

/-- L2-32: POWER_ON fails. -/
theorem test_powerOn_failed : (afterCommand { State.reset with env := [failing] } 0x04#8).map
    (fun t => (t.trace, statusWord t)) = some ([.txFail .cmd 0x04#8], 0x0000011C#32) := by decide

/-- L2-31: a busy sample holds the WAIT, an idle one ends it. -/
theorem test_wait : (nextOf (step (inFlight [.wait, .finish none] [busyLine]))).map
      (fun t => (t.waiting, t.seq, t.trace)) = some (true, [.wait, .finish none], []) ∧
    (nextOf (step { inFlight [.wait, .finish none] [good] with waiting := true })).map
      (fun t => (t.waiting, t.seq, t.trace)) = some (false, [.finish none], [.wait]) := by decide

/-- L2-13: a request while busy. -/
theorem test_request_while_busy : (afterRequest (inFlight [.finish none] []) 0x00000000#32).map
    (fun t => (t.seq, statusWord t, t.req0)) = some ([.finish none], 0x00000605#32, 0#32) := by decide

/-- L2-5: IllegalRequest comes before ModeFault. -/
theorem test_illegal_first : (afterRequest State.reset 0x01000004#32).map statusWord = some 0x00000220#32 := by decide

/-- L2-12: ModeFault comes before BufferIndexFault. -/
theorem test_mode_before_index :
    (afterRequest { State.reset with mode := .sleeping, arg2 := 0x000016B1#32 } 0x00000005#32).map (·.lastErr) =
    some .modeFault := by decide

/-- Line-level views: 41_sequencer.md R167, R175, 20_memory.md R65. -/
theorem test_lines : dcLevel (.cmd 0x04#8) = some 0#1 ∧ dcLevel (.data 0x04#8) = some 1#1 ∧ dcLevel .wait = none ∧
    resetPulses 2 10 = [(0#1, 10), (1#1, 10), (0#1, 10), (1#1, 10)] ∧
    serialBits 0x80#8 = [true, false, false, false, false, false, false, false] := by decide

/-! ## Witnesses: a concrete state and operands that meet the hypotheses of each statement -/

/-- The reset state with these host actions to come. -/
def withTodo (l : List HostAction) : State := { State.reset with todo := l }

/-- A state with the invariant in the middle of a DISPLAY, its refresh command sent. -/
def midDisplay (env : List EnvAnswer) : State :=
  { inFlight [.wait, .finish none] env with upc := 1, trace := [.cmd 0x12#8] }

theorem midDisplay_invariant (env : List EnvAnswer) : BlockInv (midDisplay env) where
  fbCanonical := rfl
  rbufCanonical := rfl
  busyIffSeq := by simp [midDisplay, inFlight]
  seqLegal := fun _ => ⟨[.wait], none, rfl, .inl rfl, by simp, by simp⟩
  waitingAtWait := fun h => by simp [midDisplay, inFlight, active, State.reset] at h
  idleUpc := fun h => by simp [midDisplay, inFlight] at h
  busyNoError := fun _ => rfl
  transportSticky := fun h => by simp [midDisplay, inFlight, active, State.reset] at h
  refusalSticky := fun h => absurd rfl h
  overrunSticky := fun h => by simp [midDisplay, inFlight, active, State.reset] at h
  indeterminateSticky := fun h => by simp [midDisplay, inFlight, active] at h
  stickyIffFailed := by simp [midDisplay, inFlight, active, State.reset]
  traceCommands := by
    intro b h
    simp only [midDisplay, List.mem_singleton, WireEvent.cmd.injEq, reduceCtorEq, or_false] at h
    subst h
    exact ⟨.displayRefresh, rfl, rfl⟩

theorem witness_DecodeThenEncodeIsIdentity : decode (.request 0x00FF0708#32) = .ok (.loadLuts (fields .white .deg270 255#8)) ∧
    decode (.command 0xF8#8) = .ok .powerOptimization := ⟨rfl, rfl⟩

/-- Both ends of each range of operation codes, and the codes beside them. -/
theorem witness_RequestWordDecodesUnlessReserved :
    ([0x00000001#32, 0x00000009#32, 0x00000010#32, 0x00FF0719#32].map fun w => (decode (.request w)).toOption.isSome) =
      List.replicate 4 true ∧
    ([0x00000000#32, 0x0000000A#32, 0x0000000F#32, 0x0000001A#32, 0x00000801#32, 0x01000001#32].map
      fun w => (decode (.request w)).toOption.isSome) = List.replicate 6 false := by decide

/-- Both ends of the signed and of the unsigned range, and lines with operands at the ends of their fields, the host's
actions those they assemble to with one more behind. -/
theorem witness_AssembledLinesDecodeAndReadBack : fitsSigned (-32768) = true ∧ fitsSigned 32767 = true ∧
    fitsUnsigned 16 (0 : Nat) = true ∧ fitsUnsigned 16 (65535 : Nat) = true ∧
    ∀ l ∈ [Line.updatePartial 65535 0 0 65535 65535, .drawPixel 32767 (-32768) .white, .fbRead 65535,
        .fbWrite 65535 255, .rbufWrite 0 0, .loadLuts 255, .setRotation .deg270],
      l.wellFormed = true ∧ (withTodo (assemble l ++ [.read 0x14#5])).todo = assemble l ++ [.read 0x14#5] := by decide

theorem witness_HostWriteRunsDecodedRequest :
    (withTodo [.write 0x1F#5 7#32]).todo = .write 0x1F#5 7#32 :: [] ∧
    (withTodo [.write 0x00#5 0x00000001#32]).todo = .write 0x00#5 0x00000001#32 :: [] ∧
    decode (.request 0x00000001#32) = .ok (.init (fields)) := ⟨rfl, rfl, rfl⟩

/-- One clause for each way the sequencer moves. -/
theorem witness_SequencerRunsDecodedCommand :
    (inFlight [.cmd 0x12#8, .wait, .finish none] []).seq = .cmd 0x12#8 :: [.wait, .finish none] ∧
    decode (.command 0x12#8) = .ok .displayRefresh ∧
    (inFlight [.cmd 0x12#8, .wait, .finish none] []).todo = [] ∧
    { inFlight [.cmd 0x12#8, .wait, .finish none] [] with todo := [.pass] }.todo = .pass :: [] ∧
    { inFlight [.cmd 0x12#8, .wait, .finish none] [] with todo := [.waitDone] }.todo = .waitDone :: [] ∧
    (inFlight [.cmd 0x12#8, .wait, .finish none] []).busy = true := ⟨rfl, rfl, rfl, rfl, rfl, rfl⟩

theorem witness_ReadsAndIdleStepsChangeNothingElse :
    (withTodo [.read 0x14#5]).todo = .read 0x14#5 :: [] ∧
    (withTodo [.waitDone]).todo = .waitDone :: [] ∧ (withTodo [.waitDone]).busy = false ∧
    active.todo = [] ∧ active.seq = [] := ⟨rfl, rfl, rfl, rfl, rfl⟩

theorem witness_RequestWhileBusyIsOnlyRecorded : (inFlight [.wait, .finish none] []).busy = true := rfl

/-- A word for each way to be illegal, the reserved codes at both ends of their ranges. -/
theorem witness_IllegalRequestIsOnlyRecorded : active.busy = false ∧
    ∀ w ∈ [0x00000804#32, 0x01000004#32, 0x00000000#32, 0x0000000A#32, 0x0000000F#32, 0x0000001A#32, 0x000000FF#32],
      (w.extractLsb' 11 5 ≠ 0#5 ∨ w.extractLsb' 24 8 ≠ 0#8 ∨ (w.extractLsb' 0 8).toNat = 0 ∨
        (0x0A ≤ (w.extractLsb' 0 8).toNat ∧ (w.extractLsb' 0 8).toNat ≤ 0x0F) ∨ 0x1A ≤ (w.extractLsb' 0 8).toNat) := by
  refine ⟨rfl, fun w hw => ?_⟩
  simp only [List.mem_cons, List.not_mem_nil, or_false] at hw
  rcases hw with rfl | rfl | rfl | rfl | rfl | rfl | rfl <;> decide

/-- Every wire request has a mode that refuses it. -/
theorem witness_ModeFaultIsOnlyRecorded : State.reset.busy = false ∧
    ∀ row ∈ Expected.acceptedModes (fields), ∃ m ∈ [Mode.uninitialized, Mode.sleeping], m ∉ row.2 := by decide

theorem witness_BufferIndexFaultIsOnlyRecorded : active.busy = false ∧ active.mode = .active ∧
    5808 ≤ ({ active with arg0 := 0x000016B0#32 }.arg0.extractLsb' 0 16).toNat ∧
    5808 < ({ active with arg2 := 0x000016B1#32 }.arg2.extractLsb' 0 16).toNat := by decide

theorem witness_SetRequestsWriteOneRegister : active.busy = false := rfl

theorem witness_GetRequestsWriteResult : active.busy = false := rfl

theorem witness_FbReadReturnsTheByte : active.busy = false ∧ (active.arg0.extractLsb' 0 16).toNat = 0 ∧ 0 < 5808 ∧
    ({ active with arg0 := 0x000016AF#32 }.arg0.extractLsb' 0 16).toNat = 5807 ∧ 5807 < 5808 := by decide

theorem witness_FbWriteWritesOneByte : active.busy = false ∧ (active.arg0.extractLsb' 0 16).toNat = 0 ∧ 0 < 5808 ∧
    ({ active with arg0 := 0x000016AF#32 }.arg0.extractLsb' 0 16).toNat = 5807 ∧ 5807 < 5808 := by decide

theorem witness_RbufWriteWritesOneByte : active.busy = false ∧ (active.arg0.extractLsb' 0 16).toNat = 0 ∧ 0 < 5808 ∧
    ({ active with arg0 := 0x000016AF#32 }.arg0.extractLsb' 0 16).toNat = 5807 ∧ 5807 < 5808 := by decide

theorem witness_FbFillFillsEveryByte : active.busy = false := rfl

/-- The last pixel of each orientation's area. -/
theorem witness_DrawPixelWritesExactlyOnePixel : active.busy = false ∧
    ((0x00AF0107#32 : Word).extractLsb' 0 16).toInt = (263 : Nat) ∧ ((0x00AF0107#32 : Word).extractLsb' 16 16).toInt = (175 : Nat) ∧
    263 < (logicalSize .deg180).1 ∧ 175 < (logicalSize .deg180).2 ∧
    ((0x010700AF#32 : Word).extractLsb' 0 16).toInt = (175 : Nat) ∧ ((0x010700AF#32 : Word).extractLsb' 16 16).toInt = (263 : Nat) ∧
    175 < (logicalSize .deg90).1 ∧ 263 < (logicalSize .deg90).2 := by decide

/-- Each way to be outside, at its boundary. -/
theorem witness_DrawPixelOutOfBoundsIsIgnored : active.busy = false ∧
    ((0x0000FFFF#32 : Word).extractLsb' 0 16).toInt = -1 ∧ ((0xFFFF0000#32 : Word).extractLsb' 16 16).toInt = -1 ∧
    ((0x00B00108#32 : Word).extractLsb' 0 16).toInt = 264 ∧ ((0x00B00108#32 : Word).extractLsb' 16 16).toInt = 176 ∧
    ((0x010800B0#32 : Word).extractLsb' 0 16).toInt = 176 ∧ ((0x010800B0#32 : Word).extractLsb' 16 16).toInt = 264 := by
  decide

theorem witness_InitAndWakeStartTheInitSequence : State.reset.busy = false ∧ State.reset.mode = .uninitialized ∧
    { State.reset with mode := .sleeping }.mode = .sleeping ∧
    { State.reset with mode := .indeterminate }.mode = .indeterminate := ⟨rfl, rfl, rfl, rfl⟩

theorem witness_SleepStartsItsSequence : active.busy = false ∧ active.mode = .active := ⟨rfl, rfl⟩

theorem witness_LoadLutsStartsTheLutSequence : active.busy = false ∧ active.mode = .active := ⟨rfl, rfl⟩

theorem witness_UpdateFullStartsTheFrameTransfer : active.busy = false ∧ active.mode = .active := ⟨rfl, rfl⟩

/-- The longest region and the empty one. -/
theorem witness_UpdatePartialStartsTheRegionTransfer : active.busy = false ∧ active.mode = .active ∧
    (active.arg2.extractLsb' 0 16).toNat ≤ 5808 ∧
    ({ active with arg2 := 0x000016B0#32 }.arg2.extractLsb' 0 16).toNat = 5808 := by decide

theorem witness_DisplayRequestsStartTheRefresh : active.busy = false ∧ active.mode = .active := ⟨rfl, rfl⟩

theorem witness_ClearFrameSendsTheBackground : active.busy = false ∧ active.mode = .active := ⟨rfl, rfl⟩

theorem witness_WireCommandsEmitOrAbort : (answerAt { active with env := [good] } 0).txOk = true ∧
    (answerAt { active with env := [failing] } 0).txOk = false := ⟨rfl, rfl⟩

/-- A request in flight whose micro-sequence is `ops`, for each way the sequencer moves: the host has nothing to do, lets
the block run, polls STATUS. -/
def turns (ops : List MicroOp) (env : List EnvAnswer) : List State :=
  [inFlight ops env, { inFlight ops env with todo := [.pass] }, { inFlight ops env with todo := [.waitDone] }]

theorem turns_cover (ops : List MicroOp) (env : List EnvAnswer) : (turns ops env).map (fun s => (s.todo, s.busy)) =
    [([], true), ([.pass], true), ([.waitDone], true)] := rfl

theorem witness_DataStepEmitsOrAborts :
    (∀ s ∈ turns [.data 0xA5#8, .finish none] [good],
      s.seq = .data 0xA5#8 :: [.finish none] ∧ (answerAt s 0).txOk = true) ∧
    ∀ s ∈ turns [.data 0xA5#8, .finish none] [failing],
      s.seq = .data 0xA5#8 :: [.finish none] ∧ (answerAt s 0).txOk = false := by decide

theorem witness_WaitStepPollsOrReturns :
    (∀ s ∈ turns [.wait, .finish none] [busyLine], s.seq = .wait :: [.finish none] ∧ (answerAt s 0).line = 0#1) ∧
    ∀ s ∈ turns [.wait, .finish none] [good], s.seq = .wait :: [.finish none] ∧ (answerAt s 0).line = 1#1 := by decide

theorem witness_ResetAndDoneSteps :
    (∀ s ∈ turns [.reset 2 10, .finish none] [], s.seq = .reset 2 10 :: [.finish none]) ∧
    (∀ s ∈ turns [.finish (some .sleeping)] [], s.seq = .finish (some .sleeping) :: []) ∧
    ∀ s ∈ turns [.finish none] [], s.seq = .finish none :: [] := by decide

/-- The micro-ops of a DISPLAY before its DONE, with a RESET before them. -/
def displayOps : List MicroOp := [.reset 2 10, .cmd 0x12#8, .wait]

/-- `displayOps` in flight: the line reads busy while the command is sent, then for one sample of the wait. -/
def displayRun (todo : List HostAction) : State :=
  { inFlight (displayOps ++ [.finish none]) [busyLine, busyLine, good] with todo := todo }

theorem delivered_displayOps (todo : List HostAction) : Delivered (answerAt (displayRun todo)) 0 displayOps 3 :=
  .reset (.cmd rfl (.busy rfl (.idle (by rintro ⟨⟩) .nil)))

theorem decodes_displayOps (b : Byte) (hb : MicroOp.cmd b ∈ displayOps) : ∃ i, decode (.command b) = .ok i := by
  simp only [displayOps, List.mem_cons, MicroOp.cmd.injEq, reduceCtorEq, List.not_mem_nil, or_false, false_or] at hb
  exact ⟨.displayRefresh, hb ▸ rfl⟩

/-- The host with nothing to do, and the host in the poll loop of an assembled line. -/
theorem witness_CompletedRequestEmitsItsMicroSequence :
    ∀ todo ∈ [[], [HostAction.waitDone]], SequencerRuns (displayRun todo) ∧
      (displayRun todo).seq = displayOps ++ [.finish none] ∧
      (∀ b, MicroOp.cmd b ∈ displayOps → ∃ i, decode (.command b) = .ok i) ∧
      Delivered (answerAt (displayRun todo)) 0 displayOps 3 := by
  intro todo htodo
  refine ⟨?_, rfl, decodes_displayOps, delivered_displayOps todo⟩
  simp only [List.mem_cons, List.not_mem_nil, or_false] at htodo
  rcases htodo with rfl | rfl
  · exact .inl rfl
  · exact .inr ⟨rfl, _, rfl⟩

/-- The micro-ops of a DEEP_SLEEP before its check byte. -/
def deepSleepOps : List MicroOp := [.cmd 0x07#8]

/-- A DEEP_SLEEP whose command fails. -/
def failingCommand : State := inFlight [.cmd 0x07#8, .data 0xA5#8, .finish none] [failing]

/-- A DEEP_SLEEP whose check byte fails, the host polling STATUS. -/
def failingByte : State :=
  { inFlight [.cmd 0x07#8, .data 0xA5#8, .finish none] [good, failing] with todo := [.waitDone] }

/-- Both kinds of byte. -/
theorem witness_FailedTransmissionEndsTheRequest :
    SequencerRuns failingCommand ∧
    failingCommand.seq = [] ++ (match TxKind.cmd with | .cmd => MicroOp.cmd 0x07#8 | .data => MicroOp.data 0x07#8) ::
      [.data 0xA5#8, .finish none] ∧
    Delivered (answerAt failingCommand) 0 [] 0 ∧ (answerAt failingCommand 0).txOk = false ∧
    SequencerRuns failingByte ∧
    failingByte.seq = deepSleepOps ++ (match TxKind.data with | .cmd => MicroOp.cmd 0xA5#8 | .data => MicroOp.data 0xA5#8) ::
      [.finish none] ∧
    (∀ c, MicroOp.cmd c ∈ failingByte.seq → ∃ i, decode (.command c) = .ok i) ∧
    Delivered (answerAt failingByte) 0 deepSleepOps 1 ∧ (answerAt failingByte 1).txOk = false := by
  refine ⟨.inl rfl, rfl, .nil, rfl, .inr ⟨rfl, _, rfl⟩, rfl, ?_, .cmd rfl .nil, rfl⟩
  intro b hb
  simp only [failingByte, inFlight, List.mem_cons, MicroOp.cmd.injEq, reduceCtorEq, List.not_mem_nil, or_false] at hb
  exact ⟨.deepSleep, hb ▸ rfl⟩

/-- The host with nothing to do, and the host in its poll loop. -/
theorem witness_BusyLineHoldsTheWait :
    SequencerRuns (midDisplay [busyLine, busyLine]) ∧
    SequencerRuns { midDisplay [busyLine, busyLine] with todo := [.waitDone] } ∧
    (midDisplay [busyLine, busyLine]).seq = .wait :: [.finish none] ∧
    ∀ n, n ≤ 1 → (answerAt (midDisplay [busyLine, busyLine]) n).line = 0#1 := by
  refine ⟨.inl rfl, .inr ⟨rfl, _, rfl⟩, rfl, fun n hn => ?_⟩
  have : n = 0 ∨ n = 1 := by omega
  rcases this with rfl | rfl <;> rfl

/-- A SLEEP about to be written, five answers that deliver and read busy. -/
def sleepRun (rest : List HostAction) : State :=
  { active with todo := .write 0x00#5 (requestWord 0x03#8 (fields)) :: rest, env := List.replicate 5 busyLine }

/-- The bare write, and the write of an assembled line. -/
theorem witness_SleepRunEmitsFiveEvents :
    ∀ rest ∈ [[], [HostAction.waitDone]],
      (sleepRun rest).busy = false ∧ (sleepRun rest).mode = .active ∧
      (sleepRun rest).todo = .write 0x00#5 (requestWord 0x03#8 (fields)) :: rest ∧
      (rest = [] ∨ ∃ more, rest = .waitDone :: more) ∧ ∀ n, n < 5 → (answerAt (sleepRun rest) n).txOk = true := by
  intro rest hrest
  refine ⟨rfl, rfl, rfl, ?_, fun n hn => ?_⟩
  · simp only [List.mem_cons, List.not_mem_nil, or_false] at hrest
    exact hrest.imp_right fun h => ⟨[], h⟩
  · have : n = 0 ∨ n = 1 ∨ n = 2 ∨ n = 3 ∨ n = 4 := by omega
    rcases this with rfl | rfl | rfl | rfl | rfl <;> rfl

theorem witness_LifecycleEventCounts :
    (State.reset.busy = false ∧ State.reset.mode = .uninitialized ∧ ∃ t, exec (.init (fields)) State.reset = .next t) ∧
    (∃ t, exec (.wake (fields)) { State.reset with mode := .sleeping } = .next t) ∧
    (active.busy = false ∧ active.mode = .active ∧ ∃ t, exec (.loadLuts (fields)) active = .next t) :=
  ⟨⟨rfl, rfl, _, rfl⟩, ⟨_, rfl⟩, rfl, rfl, _, rfl⟩

theorem witness_FrameTransferEvents : active.busy = false ∧ active.mode = .active ∧
    (∃ t, exec (.updateFull (fields)) active = .next t) ∧ ∃ t, exec (.updateAndDisplay (fields)) active = .next t :=
  ⟨rfl, rfl, ⟨_, rfl⟩, _, rfl⟩

theorem witness_RegionTransferEventCount : active.busy = false ∧ active.mode = .active ∧
    (active.arg2.extractLsb' 0 16).toNat ≤ 5808 ∧ ∃ t, exec (.updatePartial (fields)) active = .next t :=
  ⟨rfl, rfl, by decide, _, rfl⟩

theorem witness_StepKeepsTheInvariant : BlockInv (midDisplay [good]) ∧ ∃ t, step (midDisplay [good]) = .next t :=
  ⟨midDisplay_invariant _, _, rfl⟩

theorem witness_InvariantStatesNeverStop : BlockInv (midDisplay []) := midDisplay_invariant _

theorem witness_TraceOnlyGrows : (∃ t, step (midDisplay [good]) = .next t) ∧
    ∃ t, step { midDisplay [] with todo := [.hardwareReset] } = .next t := ⟨⟨_, rfl⟩, _, rfl⟩

theorem witness_ModeIsWrittenOnlyAtTheEnd : (∃ t, step (inFlight [.finish (some .sleeping)] []) = .next t) ∧
    (∃ t, step (inFlight [.cmd 0x12#8, .finish none] [failing]) = .next t) ∧
    ∃ t, step { active with todo := [.hardwareReset] } = .next t := ⟨⟨_, rfl⟩, ⟨_, rfl⟩, _, rfl⟩

theorem witness_BackgroundAndRotationHaveOneWriter :
    (∃ t, step (withTodo [.write 0x00#5 0x00000010#32]) = .next t) ∧
    ∃ t, step (withTodo [.write 0x00#5 0x00000613#32]) = .next t := ⟨⟨_, rfl⟩, _, rfl⟩

theorem witness_StickyBitsStayUntilReset :
    (∃ t, step { midDisplay [good] with stickyTx := true, stickyFault := true, overrun := true } = .next t) ∧
    ∀ rest, { midDisplay [good] with stickyTx := true, stickyFault := true, overrun := true }.todo ≠
      .hardwareReset :: rest := ⟨⟨_, rfl⟩, fun _ h => by cases h⟩

theorem witness_RequestInFlightOwnsTheMemories :
    { midDisplay [] with todo := [.write 0x00#5 0x00000118#32] }.busy = true ∧
    (∃ t, step { midDisplay [] with todo := [.write 0x00#5 0x00000118#32] } = .next t) ∧
    ∀ rest, { midDisplay [] with todo := [.write 0x00#5 0x00000118#32] }.todo ≠ .hardwareReset :: rest :=
  ⟨rfl, ⟨_, rfl⟩, fun _ h => by cases h⟩

/-- INIT issued, the reset pulses done and the first command delivered. -/
theorem witness_OnlyNamedCommandsAreEverSent :
    ∃ t, steps 3 { State.reset with todo := [.write 0x00#5 0x00000001#32], env := [good] } = .next t ∧
      WireEvent.cmd 0x01#8 ∈ t.trace := ⟨_, rfl, List.mem_cons_of_mem _ (List.mem_singleton.2 rfl)⟩

theorem witness_HostRegisterMap :
    (∀ off ∈ [0x04#5, 0x08#5, 0x0C#5, 0x10#5, 0x14#5, 0x1F#5],
      (withTodo [.write off 1#32]).todo = .write off 1#32 :: []) ∧
    ∀ off ∈ [0x10#5, 0x14#5, 0x1F#5], off ∉ [0x00#5, 0x04#5, 0x08#5, 0x0C#5] := by
  refine ⟨fun off _ => rfl, by decide⟩

theorem witness_HardwareResetGivesTheResetState :
    { midDisplay [] with todo := [.hardwareReset] }.todo = .hardwareReset :: [] := rfl

/-- The first and the last pixel of each area. -/
theorem witness_TranslationIsABijection :
    ∀ r ∈ [Rotation.deg0, .deg90, .deg180, .deg270], 0 < (logicalSize r).1 ∧ 0 < (logicalSize r).2 ∧
      ((logicalSize r).1 = 264 ∧ (logicalSize r).2 = 176 ∧ xlate r 263 175 ∈ [(263, 175), (0, 0)] ∨
       (logicalSize r).1 = 176 ∧ (logicalSize r).2 = 264 ∧ xlate r 175 263 ∈ [(0, 175), (263, 0)]) := by decide

/-- The first and the last bit of FB, and two equal pixels of one place. -/
theorem witness_FramebufferMap : pixelIndex (0, 0) = 0 ∧ pixelBit (0, 0) = 7 ∧ pixelIndex (263, 175) = 5807 ∧
    pixelBit (263, 175) = 0 ∧ (263, 175).1 < 264 := by decide

theorem witness_DrawPixelIsIdempotent :
    ∃ t, exec (.drawPixel (fields)) active = .next t ∧ ∃ u, exec (.drawPixel (fields)) t = .next u :=
  ⟨_, rfl, _, rfl⟩

theorem witness_DrawingAllWhiteGivesTheResetFrame : { active with rot := .deg270, fb := [(32, 0xFE#8)] }.busy = false := rfl

theorem witness_RequestPseudoInstructionWritesItsWords :
    (withTodo (assembleReq 0x00000005#32 1#32 2#32 3#32 ++ [.read 0x10#5])).todo =
      assembleReq 0x00000005#32 1#32 2#32 3#32 ++ [.read 0x10#5] := rfl

end Sys2Proof.Tests
end

