-- ==== Sys2Proof/Proofs/AddressBytes.lean ====
section
/-! The address bytes of a partial window as numbers (30_encoding.md R97): division and remainder by 256 give the two
bytes of a 16-bit value, and discarding the low three bits of a byte rounds it down to a multiple of 8. -/

namespace Sys2Proof.Machine

theorem toNat_highByte (v : Half) : (v.extractLsb' 8 8).toNat = v.toNat / 256 := by
  have hv : v.toNat / 256 < 256 := by omega
  rw [BitVec.extractLsb'_toNat, Nat.shiftRight_eq_div_pow]
  exact Nat.mod_eq_of_lt hv

theorem toNat_lowByte (v : Half) : (v.extractLsb' 0 8).toNat = v.toNat % 256 := by
  rw [BitVec.extractLsb'_toNat, Nat.shiftRight_zero]

/-- The mask 0xF8 drops the low three bits: the byte shifted out and in again. -/
theorem and_columnMask_eq_shift (b : Byte) : b &&& 0xF8#8 = (b >>> 3) <<< 3 := by
  apply BitVec.eq_of_getLsbD_eq
  intro i hi
  interval_cases i <;> simp

theorem toNat_and_columnMask (b : Byte) : (b &&& 0xF8#8).toNat = b.toNat / 8 * 8 := by
  have hb : b.toNat / 8 * 8 < 256 := by omega
  rw [and_columnMask_eq_shift, BitVec.toNat_shiftLeft, BitVec.toNat_ushiftRight, Nat.shiftRight_eq_div_pow,
    Nat.shiftLeft_eq]
  exact Nat.mod_eq_of_lt hb

/-- The two bytes of a 16-bit value as numbers (20_memory.md R64). -/
theorem map_toNat_splitBytes (v : Half) : (splitBytes v).map BitVec.toNat = [v.toNat / 256, v.toNat % 256] := by
  simp only [splitBytes, List.map_cons, List.map_nil, toNat_highByte, toNat_lowByte]

/-- The two bytes of a column value as numbers (20_memory.md R68). -/
theorem map_toNat_splitColumn (v : Half) :
    (splitColumn v).map BitVec.toNat = [v.toNat / 256, v.toNat % 256 / 8 * 8] := by
  simp only [splitColumn, List.map_cons, List.map_nil, toNat_and_columnMask, toNat_highByte, toNat_lowByte]

/-- Settles O55: the window's bytes are those of its two column values and its two row values, in turn. -/
theorem addressBytesOfAWindow : Obligations.AddressBytesOfAWindow := by
  intro x y w h
  simp only [addrBytes, List.map_append, map_toNat_splitColumn, map_toNat_splitBytes, List.cons_append, List.nil_append]

end Sys2Proof.Machine
end

