-- ==== Sys2Proof/Proofs/Refusals.lean ====
section
/-! What a refusal records (60_exceptions.md R250, R253 to R256). A refused request takes one of `raise`'s branches and
nothing of its own is run: `takeRequest` refuses a decoded request, `issueRequest` a word that decodes to none. -/

namespace Sys2Proof.Machine

/-! ## Refusals of a decoded request -/

/-- A request in a MODE that does not accept it is only recorded, whatever its operands. -/
theorem takeRequest_modeFault {acc : Mode → Bool} {out : State → Bool} {latch : State → State}
    {run : State → Host.Outcome State Fault Refusal} {s : State} (hb : s.busy = false) (ha : acc s.mode = false) :
    takeRequest acc out latch run s = .next (raise .modeFault s) := by
  simp [takeRequest, hb, ha]

/-- A request in a MODE that accepts it, its index or length out of range, is only recorded. -/
theorem takeRequest_bufferIndexFault {acc : Mode → Bool} {out : State → Bool} {latch : State → State}
    {run : State → Host.Outcome State Fault Refusal} {s : State} (hb : s.busy = false) (ha : acc s.mode = true)
    (ho : out s = true) : takeRequest acc out latch run s = .next (raise .bufferIndexFault s) := by
  simp [takeRequest, hb, ha, ho]

theorem fbIndexOut_iff (s : State) : fbIndexOut s = true ↔ 5808 ≤ (s.arg0.extractLsb' 0 16).toNat :=
  decide_eq_true_iff

theorem rbufIndexOut_iff (s : State) : rbufIndexOut s = true ↔ 5808 ≤ (s.arg0.extractLsb' 0 16).toNat :=
  decide_eq_true_iff

theorem lengthOut_iff (s : State) : lengthOut s = true ↔ 5808 < (s.arg2.extractLsb' 0 16).toNat :=
  decide_eq_true_iff

/-! ## Reserved request words -/

/-- The operation codes of the table lie in the two ranges of 30_encoding.md R92. -/
theorem requestTable_code_range : ∀ row ∈ requestTable,
    (0x01 ≤ row.1.toNat ∧ row.1.toNat ≤ 0x09) ∨ (0x10 ≤ row.1.toNat ∧ row.1.toNat ≤ 0x19) := by
  decide

/-- A word that decodes has zero reserved fields and an operation code in range (30_encoding.md R93, R94). -/
theorem not_reserved_of_decode_request {w : Word} {i : Instr} (h : decode (.request w) = .ok i) :
    w.extractLsb' 11 5 = 0#5 ∧ w.extractLsb' 24 8 = 0#8 ∧
      ((0x01 ≤ (w.extractLsb' 0 8).toNat ∧ (w.extractLsb' 0 8).toNat ≤ 0x09) ∨
       (0x10 ≤ (w.extractLsb' 0 8).toNat ∧ (w.extractLsb' 0 8).toNat ≤ 0x19)) := by
  simp only [decode, decodeRequest] at h
  split at h
  · cases h
  · next hfields =>
    obtain ⟨hlow, hhigh⟩ := not_or.1 hfields
    split at h
    · next mk hrow =>
      exact ⟨not_not.1 hlow, not_not.1 hhigh, requestTable_code_range _ (mem_of_lookupCode hrow)⟩
    · cases h

/-! ## Writes of REQ0 -/

/-- A write of REQ0 stores the word before anything is made of it as a request (10_state.md R24). -/
theorem hostWrite_req0 (w : Word) (s : State) : hostWrite 0x00#5 w s = issueRequest w { s with req0 := w } := rfl

/-- While a request is in flight it does not matter whether the word decodes (60_exceptions.md R256, R258). -/
theorem issueRequest_busy {w : Word} {s : State} (hb : s.busy = true) :
    issueRequest w s = .next (raise .requestWhileBusy s) := by
  unfold issueRequest
  split
  · next hi => exact exec_request_busy (fields_of_decode_request hi) hb
  · simp only [hb, if_true]

/-- An idle block records a word that decodes to no request as IllegalRequest, in every MODE. -/
theorem issueRequest_illegal {w : Word} {s : State} (hb : s.busy = false) (hw : ∀ i, decode (.request w) ≠ .ok i) :
    issueRequest w s = .next (raise .illegalRequest s) := by
  unfold issueRequest
  split
  · next i hi => exact absurd hi (hw i)
  · simp only [hb, Bool.false_eq_true, if_false]

/-! ## The obligations -/

/-- Settles O9: the word is refused whether or not it decodes, and the refusal leaves LAST_ERR and SEQ alone. -/
theorem requestWhileBusyIsOnlyRecorded : Obligations.RequestWhileBusyIsOnlyRecorded := by
  intro s w hb
  rw [hostWrite_req0]
  exact issueRequest_busy hb

/-- Settles O10: each of the reserved forms contradicts what a word that decodes satisfies. -/
theorem illegalRequestIsOnlyRecorded : Obligations.IllegalRequestIsOnlyRecorded := by
  intro s w hb hreserved
  rw [hostWrite_req0]
  refine issueRequest_illegal hb fun i hi => ?_
  obtain ⟨hlow, hhigh, hop⟩ := not_reserved_of_decode_request hi
  rcases hreserved with h | h | h
  · exact h hlow
  · exact h hhigh
  · omega

/-- Settles O11: row by row of 42_lifecycle.md R190, the request's own mode check fails on a MODE not listed. -/
theorem modeFaultIsOnlyRecorded : Obligations.ModeFaultIsOnlyRecorded := by
  intro f s hb row hrow hmode
  simp only [Expected.acceptedModes, List.mem_cons, List.not_mem_nil, or_false] at hrow
  rcases hrow with rfl | rfl | rfl | rfl | rfl | rfl | rfl | rfl | rfl
  all_goals
    simp only [exec, execInit, execWake, execSleep, execLoadLuts, execUpdateFull, execUpdatePartial, execDisplay,
      execUpdateAndDisplay, execClearFrame]
    refine takeRequest_modeFault hb ?_
    simpa using hmode

/-- Settles O12: three requests check their index in every MODE, UPDATE_PARTIAL its length once Active accepts it. -/
theorem bufferIndexFaultIsOnlyRecorded : Obligations.BufferIndexFaultIsOnlyRecorded := by
  intro f s hb
  constructor
  · intro hidx i hi
    simp only [List.mem_cons, List.not_mem_nil, or_false] at hi
    rcases hi with rfl | rfl | rfl <;> simp only [exec, execFbRead, execFbWrite, execRbufWrite]
    · exact takeRequest_bufferIndexFault hb rfl ((fbIndexOut_iff s).2 hidx)
    · exact takeRequest_bufferIndexFault hb rfl ((fbIndexOut_iff s).2 hidx)
    · exact takeRequest_bufferIndexFault hb rfl ((rbufIndexOut_iff s).2 hidx)
  · intro hmode hlen
    simp only [exec, execUpdatePartial]
    refine takeRequest_bufferIndexFault hb ?_ ((lengthOut_iff s).2 hlen)
    exact beq_iff_eq.2 hmode

end Sys2Proof.Machine
end

section
/-! The two encoding spaces (30_encoding.md). A request word is its operation code and its three fields with nothing
else set, so a word whose reserved fields are zero is rebuilt from what the decoder reads of it; a table row is found by
its own code. -/

namespace Sys2Proof

/-! ## Encoding, then decoding -/

theorem encode_of_request {i : Instr} {f : ReqFields} (hi : i.fields = some f) :
    encode i = .request (requestWord (opcode i) f) := by
  simp only [encode, hi]

theorem encode_of_command {i : Instr} (hi : i.fields = none) : encode i = .command (opcode i) := by
  simp only [encode, hi]

/-- Every request stands in the request table under its own operation code (30_encoding.md R92). -/
theorem lookupCode_request {i : Instr} {f : ReqFields} (hi : i.fields = some f) :
    ∃ mk, lookupCode requestTable (opcode i) = some mk ∧ mk f = i := by
  cases i <;> cases hi <;> exact ⟨_, rfl, rfl⟩

/-- Every wire command stands in the command table under its own byte (30_encoding.md R100). -/
theorem lookupCode_command {i : Instr} (hi : i.fields = none) : lookupCode commandTable (opcode i) = some i := by
  cases i <;> cases hi <;> rfl

theorem decode_encode (i : Instr) : decode (encode i) = .ok i := by
  cases hi : i.fields with
  | some f =>
    obtain ⟨mk, hrow, hmk⟩ := lookupCode_request hi
    rw [encode_of_request hi, decode, decodeRequest_requestWord f hrow, hmk]
  | none => rw [encode_of_command hi, decode, decodeCommand, lookupCode_command hi]

/-! ## Decoding, then encoding -/

/-- A request word whose reserved fields are zero is made of its operation code and its operand fields alone. -/
theorem requestWord_reqFields {w : Word} (hlow : w.extractLsb' 11 5 = 0#5) (hhigh : w.extractLsb' 24 8 = 0#8) :
    requestWord (w.extractLsb' 0 8) (reqFields w) = w := by
  apply BitVec.eq_of_getLsbD_eq
  intro i hi
  have zeroLow (h : 11 ≤ i) (h' : i < 16) : w.getLsbD i = false := by
    have hbit := congrArg (BitVec.getLsbD · (i - 11)) hlow
    simpa [show i - 11 < 5 by omega, show 11 + (i - 11) = i by omega] using hbit
  have zeroHigh (h : 24 ≤ i) : w.getLsbD i = false := by
    have hbit := congrArg (BitVec.getLsbD · (i - 24)) hhigh
    simpa [show i - 24 < 8 by omega, show 24 + (i - 24) = i by omega] using hbit
  rw [requestWord_getLsbD _ _ hi]
  simp only [reqFields, Colour.bit_ofBit, Rotation.bits_ofBits, BitVec.getLsbD_extractLsb']
  interval_cases i <;> simp_all

/-- The operation code of a request word is that of the request it decodes to. -/
theorem opcode_of_decode_request {w : Word} {i : Instr} (h : decode (.request w) = .ok i) :
    opcode i = w.extractLsb' 0 8 := by
  simp only [decode, decodeRequest] at h
  split at h
  · cases h
  · split at h
    · next hl =>
      have hm := mem_of_lookupCode hl
      cases h
      simp only [requestTable, List.mem_cons, Prod.mk.injEq, List.not_mem_nil, or_false] at hm
      casesm* _ ∨ _ <;> (obtain ⟨hop, rfl⟩ := hm; exact hop.symm)
    · cases h

theorem encode_of_decode {c : Code} {i : Instr} (h : decode c = .ok i) : encode i = c := by
  cases c with
  | request w =>
    obtain ⟨hlow, hhigh, -⟩ := Machine.not_reserved_of_decode_request h
    rw [encode_of_request (fields_of_decode_request h), opcode_of_decode_request h, requestWord_reqFields hlow hhigh]
  | command b => rw [encode_of_command (fields_of_decode_command h), opcode_of_decode_command h]

/-! ## Which words decode -/

theorem isSome_lookupCode_iff {α : Type} (rows : List (Byte × α)) (b : Byte) :
    (lookupCode rows b).isSome = true ↔ b ∈ rows.map Prod.fst := by
  induction rows with
  | nil => simp [lookupCode]
  | cons row rows ih =>
    simp only [lookupCode, List.map_cons, List.mem_cons]
    split
    · next hb => simp [hb]
    · next hb => simp [hb, ih]

/-- The operation codes of the table fill the two ranges of 30_encoding.md R92. -/
theorem mem_requestTable_of_range {b : Byte}
    (h : (0x01 ≤ b.toNat ∧ b.toNat ≤ 0x09) ∨ (0x10 ≤ b.toNat ∧ b.toNat ≤ 0x19)) :
    b ∈ requestTable.map Prod.fst := by
  have hb : b = BitVec.ofNat 8 b.toNat := by simp
  generalize b.toNat = n at h hb
  subst hb
  rcases h with ⟨h, h'⟩ | ⟨h, h'⟩ <;> interval_cases n <;> simp [requestTable]

theorem decode_request_of_not_reserved {w : Word} (hlow : w.extractLsb' 11 5 = 0#5) (hhigh : w.extractLsb' 24 8 = 0#8)
    (hop : (0x01 ≤ (w.extractLsb' 0 8).toNat ∧ (w.extractLsb' 0 8).toNat ≤ 0x09) ∨
       (0x10 ≤ (w.extractLsb' 0 8).toNat ∧ (w.extractLsb' 0 8).toNat ≤ 0x19)) :
    ∃ i, decode (.request w) = .ok i := by
  obtain ⟨mk, hrow⟩ := Option.isSome_iff_exists.1 ((isSome_lookupCode_iff _ _).2 (mem_requestTable_of_range hop))
  exact ⟨mk (reqFields w), by simp [decode, decodeRequest, hlow, hhigh, hrow]⟩

/-! ## The obligations -/

/-- Settles O1, by whether the instruction is a request or a wire command. -/
theorem encodeThenDecodeIsIdentity : Obligations.EncodeThenDecodeIsIdentity := decode_encode

/-- Settles O2: the word is rebuilt from its fields, the byte is the command's own. -/
theorem decodeThenEncodeIsIdentity : Obligations.DecodeThenEncodeIsIdentity := fun _ _ => encode_of_decode

/-- Settles O3: the reserved fields guard the decoder and the table fills the two ranges. -/
theorem requestWordDecodesUnlessReserved : Obligations.RequestWordDecodesUnlessReserved := by
  intro w
  constructor
  · rintro ⟨i, hi⟩
    exact Machine.not_reserved_of_decode_request hi
  · rintro ⟨hlow, hhigh, hop⟩
    exact decode_request_of_not_reserved hlow hhigh hop

/-- Settles O4: the example words, evaluated. -/
theorem exampleWordsDecode : Obligations.ExampleWordsDecode :=
  ⟨rfl, rfl, rfl, rfl, rfl, rfl, rfl, rfl, rfl, rfl⟩

end Sys2Proof
end

section
/-! The host's side of the block: the register map and the STATUS word (10_state.md section 2), hardware reset, and what
a run of host writes does. An assembled line or a REQ pseudo-instruction is a list of ARG writes, which store their
words one step each, then a write of REQ0 (30_encoding.md section 5). -/

namespace Sys2Proof.Machine

/-! ## The STATUS word -/

theorem statusWord_getLsbD (s : State) {i : Nat} (h : i < 32) :
    (statusWord s).getLsbD i = ((BitVec.ofBool s.busy).getLsbD i ||
      (decide (1 ≤ i) && (BitVec.ofBool s.waiting).getLsbD (i - 1)) ||
      (decide (2 ≤ i) && (modeBits s.mode).getLsbD (i - 2)) ||
      (decide (4 ≤ i) && (errBits s.lastErr).getLsbD (i - 4)) ||
      (decide (8 ≤ i) && (BitVec.ofBool s.stickyTx).getLsbD (i - 8)) ||
      (decide (9 ≤ i) && (BitVec.ofBool s.stickyFault).getLsbD (i - 9)) ||
      (decide (10 ≤ i) && (BitVec.ofBool s.overrun).getLsbD (i - 10))) := by
  simp only [statusWord, BitVec.getLsbD_or, getLsbD_placeField, h, decide_true, Nat.zero_le, Bool.true_and,
    Nat.sub_zero]

theorem statusWord_mode (s : State) : (statusWord s).extractLsb' 2 2 = modeBits s.mode := by
  apply BitVec.eq_of_getLsbD_eq
  intro i hi
  rw [BitVec.getLsbD_extractLsb', statusWord_getLsbD _ (by omega)]
  interval_cases i <;> simp

theorem statusWord_lastErr (s : State) : (statusWord s).extractLsb' 4 4 = errBits s.lastErr := by
  apply BitVec.eq_of_getLsbD_eq
  intro i hi
  rw [BitVec.getLsbD_extractLsb', statusWord_getLsbD _ (by omega)]
  interval_cases i <;> simp

theorem statusWord_reserved (s : State) : (statusWord s).extractLsb' 11 21 = 0#21 := by
  apply BitVec.eq_of_getLsbD_eq
  intro i hi
  rw [BitVec.getLsbD_extractLsb', statusWord_getLsbD _ (by omega)]
  interval_cases i <;> simp

theorem toNat_modeBits (m : Mode) : (modeBits m).toNat =
    (match m with | .uninitialized => 0 | .active => 1 | .sleeping => 2 | .indeterminate => 3) := by
  cases m <;> rfl

theorem toNat_errBits (e : ErrCode) : (errBits e).toNat =
    (match e with
      | .none => 0 | .transportError => 1 | .illegalRequest => 2 | .modeFault => 3 | .bufferIndexFault => 4) := by
  cases e <;> rfl

/-- Every field of STATUS is zero after hardware reset (10_state.md R43). -/
theorem statusWord_hardwareReset (s : State) : statusWord (hardwareReset s) = 0x00000000#32 := by
  simp only [statusWord, hardwareReset, State.reset]
  decide

/-! ## Registers -/

theorem readReg_unlisted {off : BitVec 5} (h : off ∉ [0x00#5, 0x04#5, 0x08#5, 0x0C#5, 0x10#5, 0x14#5]) (s : State) :
    readReg off s = 0#32 := by
  simp only [List.mem_cons, List.not_mem_nil, or_false, not_or] at h
  unfold readReg
  split <;> simp_all

theorem writeReg_unlisted {off : BitVec 5} (h : off ∉ [0x00#5, 0x04#5, 0x08#5, 0x0C#5]) (v : Word) (s : State) :
    writeReg off v s = s := by
  simp only [List.mem_cons, List.not_mem_nil, or_false, not_or] at h
  unfold writeReg
  split <;> simp_all

/-- The registers are below the host's coming actions: a write of one leaves the other alone. -/
theorem writeReg_withTodo (off : BitVec 5) (v : Word) (rest : List HostAction) (s : State) :
    writeReg off v { s with todo := rest } = { writeReg off v s with todo := rest } := by
  unfold writeReg
  split <;> rfl

/-! ## Host writes -/

theorem step_of_write {s : State} {off : BitVec 5} {v : Word} {rest : List HostAction}
    (h : s.todo = .write off v :: rest) : step s = hostWrite off v { s with todo := rest } := step_of_todo_cons h

/-- A write of REQ0 whose word decodes runs that request (60_exceptions.md R258). -/
theorem step_of_request {s : State} {w : Word} {rest : List HostAction} {i : Instr}
    (h : s.todo = .write 0x00#5 w :: rest) (hd : decode (.request w) = .ok i) :
    step s = exec i { s with todo := rest, req0 := w } := by
  rw [step_of_write h, hostWrite_req0, issueRequest, hd]

/-- The registers after one host write that issues no request. -/
def applyWrite (s : State) : HostAction → State
  | .write off v => writeReg off v s
  | .read _ | .hardwareReset | .pass | .waitDone => s

/-- The action writes a register other than REQ0. -/
def IsArgWrite (a : HostAction) : Prop := ∃ off v, a = .write off v ∧ off ≠ 0x00#5

theorem foldl_applyWrite_withTodo (ws : List HostAction) (rest : List HostAction) (s : State) :
    ws.foldl applyWrite { s with todo := rest } = { ws.foldl applyWrite s with todo := rest } := by
  induction ws generalizing s with
  | nil => rfl
  | cons a ws ih =>
    have ha : applyWrite { s with todo := rest } a = { applyWrite s a with todo := rest } := by
      cases a with
      | write off v => exact writeReg_withTodo ..
      | _ => rfl
    exact (congrArg (ws.foldl applyWrite) ha).trans (ih _)

/-- Writes of registers other than REQ0 take one step each and store their words in turn. -/
theorem steps_argWrites {ws : List HostAction} (hw : ∀ a ∈ ws, IsArgWrite a) {s : State} {rest : List HostAction}
    (h : s.todo = ws ++ rest) : steps ws.length s = .next { ws.foldl applyWrite s with todo := rest } := by
  induction ws generalizing s with
  | nil => subst h; rfl
  | cons a ws ih =>
    obtain ⟨⟨off, v, rfl, hoff⟩, hws⟩ := List.forall_mem_cons.1 hw
    have hstep := step_of_argWrite h hoff
    rw [writeReg_withTodo] at hstep
    rw [List.length_cons, steps, hstep]
    exact (ih hws rfl).trans (by rw [foldl_applyWrite_withTodo]; rfl)

/-- Writes of other registers, then a write of REQ0. -/
theorem steps_argWrites_request {ws : List HostAction} (hw : ∀ a ∈ ws, IsArgWrite a) {s : State} {w : Word}
    {rest : List HostAction} (h : s.todo = ws ++ .write 0x00#5 w :: rest) :
    steps (ws.length + 1) s = hostWrite 0x00#5 w { ws.foldl applyWrite s with todo := rest } := by
  rw [steps_add (steps_argWrites hw h), steps_one, step_of_write rfl]

/-! ## Assembler lines -/

theorem isArgWrite_of_mem_argWrites (l : Line) : ∀ a ∈ l.argWrites, IsArgWrite a := by
  cases l <;> simp [Line.argWrites, IsArgWrite]

theorem fields_instr (l : Line) : ∃ f, l.instr.fields = some f := by
  cases l <;> exact ⟨_, rfl⟩

/-- The request word of a line decodes to the line's request. -/
theorem decode_reqWordOf_instr (l : Line) : decode (.request (reqWordOf l.instr)) = .ok l.instr := by
  obtain ⟨f, hf⟩ := fields_instr l
  have h := decode_encode l.instr
  rw [reqWordOf, encode_of_request hf]
  rwa [encode_of_request hf] at h

theorem wellFormed_instr (l : Line) : WellFormed l.instr = true := by
  cases l <;> rfl

theorem toInt_ofInt_of_fitsSigned {v : Int} (h : fitsSigned v = true) : (BitVec.ofInt 16 v).toInt = v := by
  simp only [fitsSigned, Bool.and_eq_true, decide_eq_true_eq] at h
  exact BitVec.toInt_ofInt_eq_self (by decide) (by norm_num; omega) (by norm_num; omega)

theorem toNat_ofInt_of_fitsUnsigned {n : Nat} {v : Int} (h : fitsUnsigned n v = true) :
    ((BitVec.ofInt n v).toNat : Int) = v := by
  simp only [fitsUnsigned, Bool.and_eq_true, decide_eq_true_eq] at h
  have hmod : v % (2 ^ n : Nat) = v := Int.emod_eq_of_lt h.1 (by exact_mod_cast h.2)
  rw [BitVec.toNat_ofInt, hmod, Int.toNat_of_nonneg h.1]

/-- The line's request in the form 30_encoding.md R102 writes it, its LUTSEL byte being the number written. -/
theorem lineRequest_instr {l : Line} (hl : l.wellFormed = true) : Expected.lineRequest l l.instr := by
  cases l with
  | loadLuts sel => exact ⟨_, toNat_ofInt_of_fitsUnsigned hl, rfl⟩
  | _ => rfl

/-- The low byte of a packed word is that of its first operand. -/
theorem toNat_lowByte_packHalves {v : Int} (h : fitsUnsigned 8 v = true) :
    (((packHalves v 0).extractLsb' 0 8).toNat : Int) = v := by
  have hlow : (packHalves v 0).extractLsb' 0 8 = (lowHalf (packHalves v 0)).extractLsb' 0 8 := by
    apply BitVec.eq_of_getLsbD_eq
    intro i hi
    simp [lowHalf, hi]
  rw [hlow, lowHalf_packHalves, toNat_lowByte]
  simp only [fitsUnsigned, Bool.and_eq_true, decide_eq_true_eq] at h
  have h16 : fitsUnsigned 16 v = true := by
    simp only [fitsUnsigned, Bool.and_eq_true, decide_eq_true_eq]
    omega
  have := toNat_ofInt_of_fitsUnsigned h16
  omega

/-- After its ARG writes every operand of a line stands in its field of the ARG registers (30_encoding.md R95). -/
theorem lineOperands_argWrites {l : Line} (hl : l.wellFormed = true) (s : State) (w : Word) (rest : List HostAction) :
    Expected.lineOperands l s { l.argWrites.foldl applyWrite s with req0 := w, todo := rest } := by
  have low {v v' : Int} (h : fitsUnsigned 16 v = true) : (((packHalves v v').extractLsb' 0 16).toNat : Int) = v :=
    (congrArg (fun b : Half => (b.toNat : Int)) (lowHalf_packHalves v v')).trans (toNat_ofInt_of_fitsUnsigned h)
  have high {v v' : Int} (h : fitsUnsigned 16 v' = true) : (((packHalves v v').extractLsb' 16 16).toNat : Int) = v' :=
    (congrArg (fun b : Half => (b.toNat : Int)) (highHalf_packHalves v v')).trans (toNat_ofInt_of_fitsUnsigned h)
  cases l with
  | updatePartial x y wd ht len =>
    simp only [Line.wellFormed, Bool.and_eq_true] at hl
    obtain ⟨⟨⟨⟨hx, hy⟩, hwd⟩, hht⟩, hlen⟩ := hl
    exact ⟨low hx, high hy, low hwd, high hht, low hlen⟩
  | drawPixel x y c =>
    simp only [Line.wellFormed, Bool.and_eq_true] at hl
    obtain ⟨hx, hy⟩ := hl
    exact ⟨(congrArg BitVec.toInt (lowHalf_packHalves x y)).trans (toInt_ofInt_of_fitsSigned hx),
      (congrArg BitVec.toInt (highHalf_packHalves x y)).trans (toInt_ofInt_of_fitsSigned hy), rfl, rfl⟩
  | fbRead i => exact ⟨low hl, rfl, rfl⟩
  | fbWrite i v =>
    simp only [Line.wellFormed, Bool.and_eq_true] at hl
    exact ⟨low hl.1, toNat_lowByte_packHalves hl.2, rfl⟩
  | rbufWrite i v =>
    simp only [Line.wellFormed, Bool.and_eq_true] at hl
    exact ⟨low hl.1, toNat_lowByte_packHalves hl.2, rfl⟩
  | _ => exact ⟨rfl, rfl, rfl⟩

/-! ## The obligations -/

/-- Settles O5: the ARG writes run one by one, and the REQ0 write that follows runs the request its word decodes to. -/
theorem assembledLinesDecodeAndReadBack : Obligations.AssembledLinesDecodeAndReadBack := by
  refine ⟨fun l => ⟨decode_reqWordOf_instr l, wellFormed_instr l⟩, fun lo hi hlo hhi => ?_, fun lo hi hlo hhi => ?_,
    fun l s rest hl hs => ⟨lineRequest_instr hl,
      { l.argWrites.foldl applyWrite s with req0 := reqWordOf l.instr, todo := .waitDone :: rest },
      lineOperands_argWrites hl .., ?_, ?_⟩⟩
  · rw [lowHalf_packHalves, highHalf_packHalves]
    exact ⟨toInt_ofInt_of_fitsSigned hlo, toInt_ofInt_of_fitsSigned hhi⟩
  · rw [lowHalf_packHalves, highHalf_packHalves]
    exact ⟨by exact_mod_cast toNat_ofInt_of_fitsUnsigned hlo, by exact_mod_cast toNat_ofInt_of_fitsUnsigned hhi⟩
  · cases l <;> rfl
  · have htodo : s.todo = l.argWrites ++ .write 0x00#5 (reqWordOf l.instr) :: (.waitDone :: rest) := by
      simpa [assemble] using hs
    rw [steps_argWrites_request (isArgWrite_of_mem_argWrites l) htodo, hostWrite_req0, issueRequest,
      decode_reqWordOf_instr]

/-- Settles O6. -/
theorem hostWriteRunsDecodedRequest : Obligations.HostWriteRunsDecodedRequest :=
  ⟨fun _ _ _ _ => step_of_write, fun _ _ _ _ => step_of_request⟩

/-- Settles O48, field by field. -/
theorem statusWordLayout : Obligations.StatusWordLayout := by
  intro s
  rw [statusWord_mode, statusWord_lastErr, toNat_modeBits, toNat_errBits]
  refine ⟨?_, ?_, rfl, rfl, ?_, ?_, ?_, statusWord_reserved s⟩ <;> rw [statusWord_getLsbD _ (by omega)] <;> simp

/-- Settles O49. -/
theorem hostRegisterMap : Obligations.HostRegisterMap := by
  intro s
  refine ⟨⟨rfl, rfl, rfl, rfl, rfl, rfl, fun off h => readReg_unlisted h s⟩, fun off v rest ht => ⟨?_, ?_, ?_, ?_⟩⟩
  · rintro rfl; exact step_of_argWrite ht (by decide)
  · rintro rfl; exact step_of_argWrite ht (by decide)
  · rintro rfl; exact step_of_argWrite ht (by decide)
  · intro h
    have hoff : off ≠ 0x00#5 := fun h0 => h (h0 ▸ List.mem_cons_self)
    rw [step_of_argWrite ht hoff, writeReg_unlisted h]

/-- Settles O50: the block's fields are those of the reset state, whatever they were. -/
theorem hardwareResetGivesTheResetState : Obligations.HardwareResetGivesTheResetState := by
  intro s rest ht
  exact ⟨hardwareReset { s with todo := rest }, step_of_todo_cons ht, rfl, rfl, rfl, fun _ _ => rfl, rfl, rfl, rfl, rfl,
    rfl, statusWord_hardwareReset _, rfl, rfl, rfl, fun _ => rfl, rfl⟩

/-- Settles O56: three ARG writes, then the write of REQ0. -/
theorem requestPseudoInstructionWritesItsWords : Obligations.RequestPseudoInstructionWritesItsWords := by
  intro s op a0 a1 a2 rest hs
  exact steps_argWrites_request (ws := [.write 0x04#5 a0, .write 0x08#5 a1, .write 0x0C#5 a2])
    (by simp [IsArgWrite]) hs

end Sys2Proof.Machine
end

section
/-! The invariant of the block and the whole-machine rules. `Move` lists what a step can be; each rule is read off its
cases. A host action and a refusal leave the sequencer alone, an accepted request is local or starts a micro-sequence,
and a sequencer step takes one micro-op off SEQ, polls, aborts, or ends the request. -/

namespace Sys2Proof.Machine

/-! ## Micro-sequences in flight -/

/-- What acceptance puts in SEQ has the form the invariant asks for. -/
theorem legalSeq_of_body {ops : List MicroOp} {m : Option Mode} (hm : LegalEnd m) (ho : SequenceBody ops) :
    LegalSeq (ops ++ [MicroOp.finish m]) := ⟨ops, m, rfl, hm, ho.1, ho.2⟩

/-- A micro-op other than DONE is followed by a micro-sequence of the same form. -/
theorem LegalSeq.tail {op : MicroOp} {rest : List MicroOp} (h : LegalSeq (op :: rest)) (hop : ∀ m, op ≠ .finish m) :
    rest ≠ [] ∧ LegalSeq rest := by
  obtain ⟨body, m, hbody, hm, hnf, hcmd⟩ := h
  cases body with
  | nil => exact absurd (List.cons.inj hbody).1 (hop m)
  | cons o body =>
    obtain ⟨-, rfl⟩ := List.cons.inj hbody
    exact ⟨by simp, body, m, rfl, hm, fun m' h => hnf m' (.tail _ h), fun b h => hcmd b (.tail _ h)⟩

/-- DONE names no mode, Active or Sleeping. -/
theorem LegalSeq.legalEnd {m : Option Mode} {rest : List MicroOp} (h : LegalSeq (.finish m :: rest)) : LegalEnd m := by
  obtain ⟨body, m', hbody, hm, hnf, -⟩ := h
  cases body with
  | nil => obtain ⟨⟨⟩, -⟩ := List.cons.inj hbody; exact hm
  | cons o body => obtain ⟨rfl, -⟩ := List.cons.inj hbody; exact absurd (List.mem_cons_self) (hnf m)

/-- A CMD at the head of SEQ is one the block sends. -/
theorem LegalSeq.sentCommand {b : Byte} {rest : List MicroOp} (h : LegalSeq (.cmd b :: rest)) : SentCommand b := by
  obtain ⟨body, m, hbody, -, -, hcmd⟩ := h
  cases body with
  | nil => cases (List.cons.inj hbody).1
  | cons o body => obtain ⟨rfl, -⟩ := List.cons.inj hbody; exact hcmd b List.mem_cons_self

theorem LegalEnd.getD_ne_indeterminate {m : Option Mode} (h : LegalEnd m) {mode : Mode}
    (hm : m.getD mode = .indeterminate) : mode = .indeterminate := by
  rcases h with rfl | rfl | rfl
  · exact hm
  · cases hm
  · cases hm

/-! ## The invariant, operation by operation -/

/-- What the write of a word that decodes to no request records (60_exceptions.md R258). -/
theorem noRequest_cases {s u t : State}
    (e : t = raise (if s.busy then .requestWhileBusy else .illegalRequest) u) :
    (s.busy = true ∧ t = raise .requestWhileBusy u) ∨ (s.busy = false ∧ t = raise .illegalRequest u) := by
  subst e
  cases s.busy <;> simp

namespace BlockInv

variable {s : State}

/-- The invariant says nothing of the host's registers and actions or of the environment. -/
theorem withHost (h : BlockInv s) (req0 arg0 arg1 arg2 hostData : Word) (todo : List HostAction) (env : List EnvAnswer)
    (draws resets : Nat) : BlockInv { s with
      req0 := req0, arg0 := arg0, arg1 := arg1, arg2 := arg2, hostData := hostData, todo := todo, env := env
      draws := draws, resets := resets } := { h with }

theorem reset : BlockInv State.reset where
  fbCanonical := reset_memories_wf.1
  rbufCanonical := reset_memories_wf.2
  busyIffSeq := by simp [State.reset]
  seqLegal h := absurd rfl h
  waitingAtWait h := by cases h
  idleUpc _ := rfl
  busyNoError _ := rfl
  transportSticky h := by cases h
  refusalSticky h := absurd rfl h
  overrunSticky h := by cases h
  indeterminateSticky h := by cases h
  stickyIffFailed := by simp [State.reset]
  traceCommands := by simp [State.reset]

theorem idle_seq (h : BlockInv s) (hb : s.busy = false) : s.seq = [] := by
  by_contra hs
  simp [h.busyIffSeq.2 hs] at hb

theorem not_waiting (h : BlockInv s) (hs : ∀ rest, s.seq ≠ .wait :: rest) : s.waiting = false := by
  by_contra hw
  obtain ⟨rest, hrest⟩ := h.waitingAtWait (Bool.eq_true_of_not_eq_false hw)
  exact hs rest hrest

theorem legalSeq_cons (h : BlockInv s) {op : MicroOp} {rest : List MicroOp} (hs : s.seq = op :: rest) :
    LegalSeq (op :: rest) := hs ▸ h.seqLegal (by simp [hs])

theorem busy_cons (h : BlockInv s) {op : MicroOp} {rest : List MicroOp} (hs : s.seq = op :: rest) : s.busy = true :=
  h.busyIffSeq.2 (by simp [hs])

/-- A request refused while one is in flight (60_exceptions.md R256). -/
theorem overrun (h : BlockInv s) : BlockInv (raise .requestWhileBusy s) :=
  { h with refusalSticky := fun _ _ => rfl, overrunSticky := fun _ => rfl }

/-- A request refused by an idle block (60_exceptions.md R253 to R255). -/
theorem refused (h : BlockInv s) (hb : s.busy = false) {e : ErrCode} (he : e ≠ .transportError) :
    BlockInv { s with lastErr := e, stickyFault := true } :=
  { h with
    busyNoError := fun hbusy => absurd (hbusy.symm.trans hb) (by decide)
    transportSticky := fun ht => absurd ht he
    refusalSticky := fun _ _ => rfl
    overrunSticky := fun _ => rfl }

theorem of_localDone (h : BlockInv s) {i : Instr} {f : ReqFields} {t : State} (ht : LocalDone i f s t) :
    BlockInv t := by
  obtain ⟨fb, rbuf, bg, rot, result, lat, rfl, hfb, hrbuf, -, -⟩ := ht
  exact { h with
    fbCanonical := hfb h.fbCanonical
    rbufCanonical := hrbuf h.rbufCanonical
    busyNoError := fun _ => rfl
    transportSticky := fun he => by cases he
    refusalSticky := fun he => absurd rfl he }

theorem of_wireStarted (h : BlockInv s) (hb : s.busy = false) {t : State} (ht : WireStarted s t) : BlockInv t := by
  obtain ⟨ops, m, lat, rfl, hm, ho⟩ := ht
  have hwait : s.waiting = false := h.not_waiting (by simp [h.idle_seq hb])
  exact { h with
    busyIffSeq := by simp
    seqLegal := fun _ => legalSeq_of_body hm ho
    waitingAtWait := fun hw => absurd (hw.symm.trans hwait) (by decide)
    idleUpc := fun _ => rfl
    busyNoError := fun _ => rfl
    transportSticky := fun he => by cases he
    refusalSticky := fun he => absurd rfl he }

/-- Whatever a decoded request does keeps the invariant. -/
theorem of_requestResult (h : BlockInv s) {i : Instr} {f : ReqFields} {t : State} (hr : RequestResult i f s t) :
    BlockInv t := by
  rcases hr with ⟨-, rfl⟩ | ⟨hb, rfl⟩ | ⟨hb, rfl⟩ | ⟨-, hl⟩ | ⟨hb, hw⟩
  · exact h.overrun
  · exact h.refused hb (by decide)
  · exact h.refused hb (by decide)
  · exact h.of_localDone hl
  · exact h.of_wireStarted hb hw

/-- A micro-op that succeeds is taken off SEQ and its event is in the trace (41_sequencer.md R160, R177). -/
theorem advanced (h : BlockInv s) {op : MicroOp} {rest : List MicroOp} (hs : s.seq = op :: rest) {e : WireEvent}
    (he : op.event = some e) :
    BlockInv { s with seq := rest, upc := s.upc + 1, trace := s.trace ++ [e], waiting := false } := by
  have hlegal := h.legalSeq_cons hs
  have hop : ∀ m, op ≠ .finish m := by rintro m rfl; cases he
  obtain ⟨hne, htail⟩ := hlegal.tail hop
  have hfail : ∀ k b, e ≠ .txFail k b := by rintro k b rfl; cases op <;> cases he
  have hcmd : ∀ b, e = .cmd b → SentCommand b := by
    rintro b rfl
    cases op <;> cases he
    exact hlegal.sentCommand
  exact { h with
    busyIffSeq := by simp [h.busy_cons hs, hne]
    seqLegal := fun _ => htail
    waitingAtWait := fun hw => by cases hw
    idleUpc := fun hnil => absurd hnil hne
    stickyIffFailed := by simp [h.stickyIffFailed, (hfail _ _).symm]
    traceCommands := fun b hb => by
      simp only [List.mem_append, List.mem_singleton, (hfail _ _).symm, or_false] at hb
      rcases hb with (hb | hb) | hb
      · exact h.traceCommands b (.inl hb)
      · exact hcmd b hb.symm
      · exact h.traceCommands b (.inr hb) }

/-- WAITING is 0 at every micro-op but a WAIT, so that one leaves it as it is. -/
theorem advanced_of_ne_wait (h : BlockInv s) {op : MicroOp} {rest : List MicroOp} (hs : s.seq = op :: rest)
    (hop : op ≠ .wait) {e : WireEvent} (he : op.event = some e) :
    BlockInv { s with seq := rest, upc := s.upc + 1, trace := s.trace ++ [e] } := by
  have hw : s.waiting = false := h.not_waiting fun r hr => hop (List.cons.inj (hs.symm.trans hr)).1
  simpa only [hw] using h.advanced hs he

/-- A failed transmission ends the request (41_sequencer.md R169). -/
theorem aborted (h : BlockInv s) {k : TxKind} {b : Byte} {rest : List MicroOp} (hs : s.seq = sendOp k b :: rest) :
    BlockInv (raise (.transport k b) s) :=
  { h with
    busyIffSeq := by simp
    seqLegal := fun hne => absurd rfl hne
    waitingAtWait := fun hw => by cases hw
    idleUpc := fun _ => rfl
    busyNoError := fun hb => by cases hb
    transportSticky := fun _ => rfl
    refusalSticky := fun _ hne => absurd rfl hne
    indeterminateSticky := fun _ => rfl
    stickyIffFailed := by simp only [raise_transport_stickyTx, raise_transport_trace, true_iff]; exact ⟨k, b, by simp⟩
    traceCommands := fun c hc => by
      simp only [raise_transport_trace, List.mem_append, List.mem_singleton, reduceCtorEq, or_false,
        WireEvent.txFail.injEq] at hc
      rcases hc with hc | hc | ⟨rfl, rfl⟩
      · exact h.traceCommands c (.inl hc)
      · exact h.traceCommands c (.inr hc)
      · exact (h.legalSeq_cons hs).sentCommand }

/-- A WAIT that samples the busy level stays (41_sequencer.md R165). -/
theorem polling (h : BlockInv s) {rest : List MicroOp} (hs : s.seq = .wait :: rest) :
    BlockInv { s with waiting := true } :=
  { h with waitingAtWait := fun _ => ⟨rest, hs⟩ }

/-- DONE ends the request (41_sequencer.md R168). -/
theorem finished (h : BlockInv s) {m : Option Mode} {rest : List MicroOp} (hs : s.seq = .finish m :: rest) :
    BlockInv (stepFinish m s) :=
  { h with
    busyIffSeq := by simp [stepFinish]
    seqLegal := fun hne => absurd rfl hne
    waitingAtWait := fun hw => by cases hw
    idleUpc := fun _ => rfl
    busyNoError := fun hb => by cases hb
    indeterminateSticky := fun hm =>
      h.indeterminateSticky ((h.legalSeq_cons hs).legalEnd.getD_ne_indeterminate hm) }

/-- Every move keeps the invariant. -/
theorem of_move (h : BlockInv s) {t : State} (hm : Move s t) : BlockInv t := by
  cases hm with
  | hostOnly t e => exact e ▸ h.withHost ..
  | argWrite t e => exact e ▸ h.withHost ..
  | request t ht hd hf hr => exact (h.withHost ..).of_requestResult hr
  | @noRequest rest w t ht e =>
    have h' := h.withHost w s.arg0 s.arg1 s.arg2 s.hostData rest s.env s.draws s.resets
    rcases noRequest_cases e with ⟨-, rfl⟩ | ⟨hb, rfl⟩
    · exact h'.overrun
    · exact h'.refused hb (by decide)
  | hardwareReset t ht e => exact e ▸ reset.withHost ..
  | @send k b rest td hd t hs e =>
    have h' := h.withHost s.req0 s.arg0 s.arg1 s.arg2 hd td s.env.tail (s.draws + 1) s.resets
    rcases send_cases e with ⟨-, rfl⟩ | ⟨-, rfl⟩
    · exact h'.advanced_of_ne_wait hs (by cases k <;> simp [sendOp]) (by cases k <;> rfl)
    · exact h'.aborted hs
  | @wait rest td hd t hs e =>
    have h' := h.withHost s.req0 s.arg0 s.arg1 s.arg2 hd td s.env.tail (s.draws + 1) s.resets
    rcases wait_cases e with ⟨-, rfl⟩ | ⟨-, rfl⟩
    · exact h'.polling hs
    · exact h'.advanced hs rfl
  | @reset n d rest td hd t hs e =>
    have h' := h.withHost s.req0 s.arg0 s.arg1 s.arg2 hd td s.env s.draws s.resets
    exact e ▸ h'.advanced_of_ne_wait hs (by simp) rfl
  | finish t hs e => exact e ▸ (h.withHost ..).finished hs

theorem of_step (h : BlockInv s) {t : State} (ht : step s = .next t) : BlockInv t := h.of_move (move_of_step ht)

theorem of_steps (h : BlockInv s) {n : Nat} {t : State} (ht : steps n s = .next t) : BlockInv t := by
  induction n generalizing s with
  | zero => cases ht; exact h
  | succ n ih =>
    rw [steps] at ht
    split at ht
    · next u hu => exact ih (h.of_step hu) ht
    · cases ht
    · cases ht

end BlockInv

/-! ## Progress -/

/-- The sequencer stops only at a CMD whose byte is no command. -/
theorem sequencerStep_safe {s : State} (h : ∀ b rest, s.seq = .cmd b :: rest → ∃ i, decode (.command b) = .ok i) :
    Safe (sequencerStep s) := by
  unfold sequencerStep
  split
  · exact ⟨_, rfl⟩
  · next b rest hs =>
    obtain ⟨i, hi⟩ := h b rest hs
    rw [hi]
    exact ⟨_, exec_command (fields_of_decode_command hi) _⟩
  · exact ⟨_, rfl⟩
  · exact ⟨_, rfl⟩
  · exact ⟨_, rfl⟩
  · exact ⟨_, rfl⟩

theorem issueRequest_safe (w : Word) (s : State) : Safe (issueRequest w s) := by
  unfold issueRequest
  split
  · next i hi =>
    obtain ⟨t, ht, -⟩ := exec_request s (fields_of_decode_request hi)
    exact ⟨t, ht⟩
  · exact ⟨_, rfl⟩

theorem hostStep_safe {s : State} (h : ∀ b rest, s.seq = .cmd b :: rest → ∃ i, decode (.command b) = .ok i)
    (a : HostAction) (rest : List HostAction) : Safe (hostStep a rest s) := by
  cases a with
  | write off v =>
    simp only [hostStep, hostWrite]
    split
    · exact issueRequest_safe ..
    · exact ⟨_, rfl⟩
  | read off => exact ⟨_, rfl⟩
  | hardwareReset => exact ⟨_, rfl⟩
  | pass => exact sequencerStep_safe h
  | waitDone =>
    simp only [hostStep, hostPoll]
    split
    · exact sequencerStep_safe h
    · exact ⟨_, rfl⟩

/-- Where every CMD at the head of SEQ is of the table, a step answers a next state. -/
theorem step_safe {s : State} (h : ∀ b rest, s.seq = .cmd b :: rest → ∃ i, decode (.command b) = .ok i) :
    Safe (step s) := by
  unfold step nextMove
  split
  · exact sequencerStep_safe h
  · exact hostStep_safe h ..

/-! ## What a decoded request leaves alone -/

/-- A decoded request emits nothing, leaves MODE alone and clears no sticky bit. -/
theorem RequestResult.frame {i : Instr} {f : ReqFields} {s t : State} (h : RequestResult i f s t) :
    t.trace = s.trace ∧ t.mode = s.mode ∧ t.stickyTx = s.stickyTx ∧ (s.stickyFault = true → t.stickyFault = true) ∧
      (s.overrun = true → t.overrun = true) := by
  rcases h with ⟨-, rfl⟩ | ⟨-, rfl⟩ | ⟨-, rfl⟩ | ⟨-, _, _, _, _, _, _, rfl, -⟩ | ⟨-, _, _, _, rfl, -⟩
  · exact ⟨rfl, rfl, rfl, fun _ => rfl, fun _ => rfl⟩
  · exact ⟨rfl, rfl, rfl, fun _ => rfl, id⟩
  · exact ⟨rfl, rfl, rfl, fun _ => rfl, id⟩
  · exact ⟨rfl, rfl, rfl, id, id⟩
  · exact ⟨rfl, rfl, rfl, id, id⟩

/-- BG has one writing request and ROT another. -/
theorem RequestResult.bg_rot {i : Instr} {f : ReqFields} {s t : State} (h : RequestResult i f s t) :
    (t.bg = s.bg ∨ (i = .setBg f ∧ t.bg = f.color)) ∧ (t.rot = s.rot ∨ (i = .setRotation f ∧ t.rot = f.rotf)) := by
  rcases h with ⟨-, rfl⟩ | ⟨-, rfl⟩ | ⟨-, rfl⟩ | ⟨-, _, _, _, _, _, _, rfl, -, -, hbg, hrot⟩ | ⟨-, _, _, _, rfl, -⟩
  · exact ⟨.inl rfl, .inl rfl⟩
  · exact ⟨.inl rfl, .inl rfl⟩
  · exact ⟨.inl rfl, .inl rfl⟩
  · exact ⟨hbg, hrot⟩
  · exact ⟨.inl rfl, .inl rfl⟩

/-- A request while one is in flight is the refusal that records it. -/
theorem RequestResult.of_busy {i : Instr} {f : ReqFields} {s t : State} (h : RequestResult i f s t)
    (hb : s.busy = true) : t = raise .requestWhileBusy s := by
  have hidle : s.busy ≠ false := by simp [hb]
  rcases h with ⟨-, ht⟩ | ⟨h, -⟩ | ⟨h, -⟩ | ⟨h, -⟩ | ⟨h, -⟩
  · exact ht
  all_goals exact absurd h hidle

/-! ## The obligations -/

/-- Settles O39, move by move. -/
theorem stepKeepsTheInvariant : Obligations.StepKeepsTheInvariant := fun _ _ h ht => h.of_step ht

/-- Settles O40. -/
theorem resetHasTheInvariant : Obligations.ResetHasTheInvariant := BlockInv.reset

/-- Settles O41: the invariant leaves only commands of the table at the head of SEQ. -/
theorem invariantStatesNeverStop : Obligations.InvariantStatesNeverStop := by
  intro s h
  refine step_safe fun b rest hs => ?_
  obtain ⟨i, hi, -⟩ := (h.legalSeq_cons hs).sentCommand
  exact ⟨i, hi⟩

/-- Settles O42: the sequencer's moves emit at most one event, the host's none. -/
theorem traceOnlyGrows : Obligations.TraceOnlyGrows := by
  intro s t hstep
  have same (h : t.trace = s.trace) : ∃ es, t.trace = s.trace ++ es ∧ es.length ≤ 1 := ⟨[], by simp [h]⟩
  cases move_of_step hstep with
  | hostOnly t e => subst e; exact .inl (same rfl)
  | argWrite t e => subst e; exact .inl (same rfl)
  | request t ht hd hf hr => exact .inl (same hr.frame.1)
  | noRequest t ht e => rcases noRequest_cases e with ⟨-, rfl⟩ | ⟨-, rfl⟩ <;> exact .inl (same rfl)
  | hardwareReset t ht e => subst e; exact .inr ⟨_, ht, rfl⟩
  | send t hs e => rcases send_cases e with ⟨-, rfl⟩ | ⟨-, rfl⟩ <;> exact .inl ⟨[_], rfl, le_rfl⟩
  | wait t hs e =>
    rcases wait_cases e with ⟨-, rfl⟩ | ⟨-, rfl⟩
    · exact .inl (same rfl)
    · exact .inl ⟨[_], rfl, le_rfl⟩
  | reset t hs e => subst e; exact .inl ⟨[_], rfl, le_rfl⟩
  | finish t hs e => subst e; exact .inl (same rfl)

/-- Settles O43: DONE with a mode, a failed transmission and hardware reset write MODE; no other move does. -/
theorem modeIsWrittenOnlyAtTheEnd : Obligations.ModeIsWrittenOnlyAtTheEnd := by
  intro s t hstep
  cases move_of_step hstep with
  | hostOnly t e => subst e; exact .inl rfl
  | argWrite t e => subst e; exact .inl rfl
  | request t ht hd hf hr => exact .inl hr.frame.2.1
  | noRequest t ht e => rcases noRequest_cases e with ⟨-, rfl⟩ | ⟨-, rfl⟩ <;> exact .inl rfl
  | hardwareReset t ht e => subst e; exact .inr (.inr (.inr ⟨_, ht, rfl⟩))
  | @send k b rest td hd t hs e =>
    rcases send_cases e with ⟨-, rfl⟩ | ⟨hfail, rfl⟩
    · exact .inl rfl
    · exact .inr (.inr (.inl ⟨b, rest, by cases k <;> simp [hs, sendOp], hfail, rfl⟩))
  | wait t hs e => rcases wait_cases e with ⟨-, rfl⟩ | ⟨-, rfl⟩ <;> exact .inl rfl
  | reset t hs e => subst e; exact .inl rfl
  | @finish m rest td hd t hs e =>
    subst e
    cases m with
    | none => exact .inl rfl
    | some m => exact .inr (.inl ⟨m, rest, hs, rfl⟩)

/-- Settles O44: only a decoded request and hardware reset touch either register. -/
theorem backgroundAndRotationHaveOneWriter : Obligations.BackgroundAndRotationHaveOneWriter := by
  intro s t hstep
  cases move_of_step hstep with
  | hostOnly t e => subst e; exact ⟨.inl rfl, .inl rfl⟩
  | argWrite t e => subst e; exact ⟨.inl rfl, .inl rfl⟩
  | @request rest w i f t ht hd hf hr =>
    obtain ⟨hbg, hrot⟩ := hr.bg_rot
    refine ⟨hbg.imp id ?_, hrot.imp id ?_⟩
    · rintro ⟨rfl, hc⟩; exact .inl ⟨w, rest, f, ht, hd, hc⟩
    · rintro ⟨rfl, hc⟩; exact .inl ⟨w, rest, f, ht, hd, hc⟩
  | noRequest t ht e => rcases noRequest_cases e with ⟨-, rfl⟩ | ⟨-, rfl⟩ <;> exact ⟨.inl rfl, .inl rfl⟩
  | hardwareReset t ht e => exact ⟨.inr (.inr ⟨_, ht⟩), .inr (.inr ⟨_, ht⟩)⟩
  | send t hs e => rcases send_cases e with ⟨-, rfl⟩ | ⟨-, rfl⟩ <;> exact ⟨.inl rfl, .inl rfl⟩
  | wait t hs e => rcases wait_cases e with ⟨-, rfl⟩ | ⟨-, rfl⟩ <;> exact ⟨.inl rfl, .inl rfl⟩
  | reset t hs e => subst e; exact ⟨.inl rfl, .inl rfl⟩
  | finish t hs e => subst e; exact ⟨.inl rfl, .inl rfl⟩

/-- Settles O45: refusals and failed transmissions only set the bits. -/
theorem stickyBitsStayUntilReset : Obligations.StickyBitsStayUntilReset := by
  intro s t hstep hnr
  cases move_of_step hstep with
  | hostOnly t e => subst e; exact ⟨id, id, id⟩
  | argWrite t e => subst e; exact ⟨id, id, id⟩
  | request t ht hd hf hr =>
    obtain ⟨-, -, htx, hfault, hover⟩ := hr.frame
    exact ⟨htx.trans, hfault, hover⟩
  | noRequest t ht e =>
    rcases noRequest_cases e with ⟨-, rfl⟩ | ⟨-, rfl⟩
    · exact ⟨id, fun _ => rfl, fun _ => rfl⟩
    · exact ⟨id, fun _ => rfl, id⟩
  | hardwareReset t ht e => exact absurd ht (hnr _)
  | send t hs e =>
    rcases send_cases e with ⟨-, rfl⟩ | ⟨-, rfl⟩
    · exact ⟨id, id, id⟩
    · exact ⟨fun _ => rfl, id, id⟩
  | wait t hs e => rcases wait_cases e with ⟨-, rfl⟩ | ⟨-, rfl⟩ <;> exact ⟨id, id, id⟩
  | reset t hs e => subst e; exact ⟨id, id, id⟩
  | finish t hs e => subst e; exact ⟨id, id, id⟩

/-- Settles O46: a request in flight leaves every other request its refusal, and no micro-op writes local state. -/
theorem requestInFlightOwnsTheMemories : Obligations.RequestInFlightOwnsTheMemories := by
  intro s t hb hstep hnr
  cases move_of_step hstep with
  | hostOnly t e => subst e; exact ⟨rfl, rfl, rfl, rfl, rfl, rfl⟩
  | argWrite t e => subst e; exact ⟨rfl, rfl, rfl, rfl, rfl, rfl⟩
  | request t ht hd hf hr => rw [hr.of_busy hb]; exact ⟨rfl, rfl, rfl, rfl, rfl, rfl⟩
  | noRequest t ht e => rw [e, if_pos hb]; exact ⟨rfl, rfl, rfl, rfl, rfl, rfl⟩
  | hardwareReset t ht e => exact absurd ht (hnr _)
  | send t hs e => rcases send_cases e with ⟨-, rfl⟩ | ⟨-, rfl⟩ <;> exact ⟨rfl, rfl, rfl, rfl, rfl, rfl⟩
  | wait t hs e => rcases wait_cases e with ⟨-, rfl⟩ | ⟨-, rfl⟩ <;> exact ⟨rfl, rfl, rfl, rfl, rfl, rfl⟩
  | reset t hs e => subst e; exact ⟨rfl, rfl, rfl, rfl, rfl, rfl⟩
  | finish t hs e => subst e; exact ⟨rfl, rfl, rfl, rfl, rfl, rfl⟩

/-- Settles O47: the invariant holds along the run, and the byte 0x10 decodes to the one command no micro-sequence
names. -/
theorem onlyNamedCommandsAreEverSent : Obligations.OnlyNamedCommandsAreEverSent := by
  intro n actions answers t ht b hb
  have hinv : BlockInv t := (BlockInv.reset.withHost ..).of_steps ht
  obtain ⟨i, hi, hw⟩ := hinv.traceCommands b hb
  refine ⟨?_, i, hi⟩
  rintro rfl
  cases hi
  cases hw

end Sys2Proof.Machine
end

section
/-! The requests an idle block accepts (40_framebuffer.md, 42_lifecycle.md, 43_frame_transfer.md):
`takeRequest_accepted` runs each on its latched operands. A local request writes its one register or memory there and
then, a wire request puts its micro-sequence in SEQ. -/

namespace Sys2Proof.Machine

/-! ## Results of the GET requests -/

theorem setWidth_colourBit (c : Colour) :
    (c.bit.setWidth 32 : Word) = (match c with | .black => 0#32 | .white => 1#32) := by
  cases c <;> rfl

theorem setWidth_rotationBits (r : Rotation) : (r.bits.setWidth 32 : Word) =
    (match r with | .deg0 => 0#32 | .deg90 => 1#32 | .deg180 => 2#32 | .deg270 => 3#32) := by
  cases r <;> rfl

/-- A byte zero-extended to a word is the same number (40_framebuffer.md R139). -/
theorem toNat_setWidth_byte (b : Byte) : (b.setWidth 32 : Word).toNat = b.toNat :=
  BitVec.toNat_setWidth_of_le (by decide)

/-! ## Index and length checks -/

theorem fbIndexOut_of_lt {s : State} (h : (s.arg0.extractLsb' 0 16).toNat < 5808) : fbIndexOut s = false :=
  decide_eq_false (Nat.not_le.2 h)

theorem rbufIndexOut_of_lt {s : State} (h : (s.arg0.extractLsb' 0 16).toNat < 5808) : rbufIndexOut s = false :=
  decide_eq_false (Nat.not_le.2 h)

theorem lengthOut_of_le {s : State} (h : (s.arg2.extractLsb' 0 16).toNat ≤ 5808) : lengthOut s = false :=
  decide_eq_false (Nat.not_lt.2 h)

/-! ## Micro-sequences, written out -/

theorem lutSeq_eq : lutSeq = Expected.lutOps := rfl

theorem initSeq_eq : initSeq = Expected.initOps := rfl

theorem data_inv_fbBytes (s : State) :
    data (inv (fbBytes s)) = (List.range 5808).map fun j => MicroOp.data (~~~(fbByte s j)) := by
  simp only [data, inv, fbBytes, List.map_map, FB_BYTES, Function.comp_def]

theorem data_inv_rbufBytes (s : State) (n : Nat) :
    data (inv (rbufBytes s n)) = (List.range n).map fun j => MicroOp.data (~~~(rbufByte s j)) := by
  simp only [data, inv, rbufBytes, List.map_map, Function.comp_def]

theorem data_inv_background (c : Colour) : data (inv (List.replicate FB_BYTES (fillByte c))) =
    List.replicate 5808 (MicroOp.data (match c with | .white => 0x00#8 | .black => 0xFF#8)) := by
  simp only [data, inv, List.map_replicate, FB_BYTES]
  cases c <;> rfl

/-- The high byte of an operand field, as bits of its ARG register. -/
theorem extractLsb'_high (w : Word) (lo : Nat) :
    (w.extractLsb' lo 16).extractLsb' 8 8 = w.extractLsb' (lo + 8) 8 := by
  apply BitVec.eq_of_getLsbD_eq
  intro i hi
  simp [hi, Nat.add_assoc, show 8 + i < 16 by omega]

/-- The low byte of an operand field, as bits of its ARG register. -/
theorem extractLsb'_low (w : Word) (lo : Nat) : (w.extractLsb' lo 16).extractLsb' 0 8 = w.extractLsb' lo 8 := by
  apply BitVec.eq_of_getLsbD_eq
  intro i hi
  simp [hi, show i < 16 by omega]

/-- The address bytes of a window whose operands stand in ARG0 and ARG1 (30_encoding.md R97). -/
theorem addrBytes_args (a0 a1 : Word) : addrBytes (lowHalf a0) (highHalf a0) (lowHalf a1) (highHalf a1) =
    [a0.extractLsb' 8 8, a0.extractLsb' 0 8 &&& 0xF8#8, a0.extractLsb' 24 8, a0.extractLsb' 16 8,
     a1.extractLsb' 8 8, a1.extractLsb' 0 8 &&& 0xF8#8, a1.extractLsb' 24 8, a1.extractLsb' 16 8] := by
  simp only [addrBytes, splitColumn, splitBytes, lowHalf, highHalf, extractLsb'_high, extractLsb'_low, List.cons_append,
    List.nil_append, Nat.zero_add, Nat.reduceAdd]

/-! ## Accepted local requests -/

theorem exec_fbRead {s : State} (f : ReqFields) (hb : s.busy = false) (hi : (s.arg0.extractLsb' 0 16).toNat < 5808) :
    exec (.fbRead f) s = .next { latchIndex 0x16#8 f (clearError s) with
      result := (fbByte s (s.arg0.extractLsb' 0 16).toNat).setWidth 32 } := by
  simp only [exec, execFbRead]
  exact (takeRequest_accepted hb rfl (fbIndexOut_of_lt hi)).trans (loadFb_of_lt hi _ _)

theorem exec_fbWrite {s : State} (f : ReqFields) (hb : s.busy = false) (hi : (s.arg0.extractLsb' 0 16).toNat < 5808) :
    exec (.fbWrite f) s = .next { latchIndex 0x17#8 f (clearError s) with
      fb := Memory.write (some FB_BLANK) (s.arg0.extractLsb' 0 16).toNat (s.arg1.extractLsb' 0 8) s.fb } := by
  simp only [exec, execFbWrite]
  exact (takeRequest_accepted hb rfl (fbIndexOut_of_lt hi)).trans (storeFb_of_lt hi _ _)

theorem exec_rbufWrite {s : State} (f : ReqFields) (hb : s.busy = false)
    (hi : (s.arg0.extractLsb' 0 16).toNat < 5808) :
    exec (.rbufWrite f) s = .next { latchIndex 0x19#8 f (clearError s) with
      rbuf := Memory.write none (s.arg0.extractLsb' 0 16).toNat (s.arg1.extractLsb' 0 8) s.rbuf } := by
  simp only [exec, execRbufWrite]
  exact (takeRequest_accepted hb rfl (rbufIndexOut_of_lt hi)).trans (storeRbuf_of_lt hi _ _)

theorem exec_fbFill {s : State} (f : ReqFields) (hb : s.busy = false) :
    exec (.fbFill f) s = .next { latchRequest 0x18#8 f (clearError s) with
      fb := Memory.fill (some FB_BLANK) FB_BYTES (fillByte f.color) } := by
  simp only [exec, execFbFill]
  exact takeRequest_accepted hb rfl rfl

/-! ## The obligations: local requests -/

/-- Settles O13. -/
theorem setRequestsWriteOneRegister : Obligations.SetRequestsWriteOneRegister := by
  intro f s hb
  simp only [exec, execSetBg, execSetRotation]
  exact ⟨takeRequest_accepted hb rfl rfl, takeRequest_accepted hb rfl rfl⟩

/-- Settles O14: the value is BG's or ROT's number, or the size word. -/
theorem getRequestsWriteResult : Obligations.GetRequestsWriteResult := by
  intro f s hb
  simp only [exec, execGetBg, execGetSize, execGetRotation]
  refine ⟨(takeRequest_accepted hb rfl rfl).trans ?_, takeRequest_accepted hb rfl rfl,
    (takeRequest_accepted hb rfl rfl).trans ?_⟩
  · rw [setWidth_colourBit]; rfl
  · rw [setWidth_rotationBits]; rfl

/-- Settles O15. -/
theorem fbReadReturnsTheByte : Obligations.FbReadReturnsTheByte := by
  rintro f s i hb rfl hi
  exact ⟨_, exec_fbRead f hb hi, toNat_setWidth_byte _, rfl⟩

/-- Settles O16. -/
theorem fbWriteWritesOneByte : Obligations.FbWriteWritesOneByte := by
  rintro f s i hb rfl hi
  exact ⟨_, exec_fbWrite f hb hi, (fbByte_write (s := s) rfl _).trans (if_pos rfl),
    fun j hj => (fbByte_write (s := s) rfl _).trans (if_neg hj), rfl⟩

/-- Settles O17. -/
theorem rbufWriteWritesOneByte : Obligations.RbufWriteWritesOneByte := by
  rintro f s i hb rfl hi
  refine ⟨_, exec_rbufWrite f hb hi, ?_, fun j hj => ?_, rfl⟩
  · exact (rbufByte_write (s := s) (by rfl) (by rfl) _).trans (if_pos rfl)
  · exact (rbufByte_write (s := s) (by rfl) (by rfl) _).trans (if_neg hj)

/-- Settles O18. -/
theorem fbFillFillsEveryByte : Obligations.FbFillFillsEveryByte := by
  intro f s hb
  refine ⟨_, exec_fbFill f hb, fun i hi => (fbByte_fill rfl hi).trans ?_, rfl⟩
  cases f.color <;> rfl

/-! ## The obligations: wire requests -/

/-- Settles O21: each request in a mode of its own row of 42_lifecycle.md R190. -/
theorem initAndWakeStartTheInitSequence : Obligations.InitAndWakeStartTheInitSequence := by
  intro f s hb
  simp only [exec, execInit, execWake, initSeq_eq]
  constructor
  · rintro (hm | hm) <;> exact takeRequest_accepted hb (by simp [hm]) rfl
  · rintro (hm | hm) <;> exact takeRequest_accepted hb (by simp [hm]) rfl

/-- Settles O22. -/
theorem sleepStartsItsSequence : Obligations.SleepStartsItsSequence := by
  intro f s hb hm
  simp only [exec, execSleep]
  exact takeRequest_accepted hb (by simp [hm]) rfl

/-- Settles O23. -/
theorem loadLutsStartsTheLutSequence : Obligations.LoadLutsStartsTheLutSequence := by
  intro f s hb hm
  simp only [exec, execLoadLuts, lutSeq_eq]
  exact takeRequest_accepted hb (by simp [hm]) rfl

/-- Settles O24. -/
theorem updateFullStartsTheFrameTransfer : Obligations.UpdateFullStartsTheFrameTransfer := by
  intro f s hb hm
  simp only [exec, execUpdateFull]
  refine (takeRequest_accepted hb (by simp [hm]) rfl).trans ?_
  simp only [startRequest, fullSeq, data_inv_fbBytes, List.append_assoc]
  rfl

/-- Settles O25. -/
theorem updatePartialStartsTheRegionTransfer : Obligations.UpdatePartialStartsTheRegionTransfer := by
  intro f s hb hm hlen
  simp only [exec, execUpdatePartial]
  refine (takeRequest_accepted hb (by simp [hm]) (lengthOut_of_le hlen)).trans ?_
  simp only [startRequest, partialSeq, data_inv_rbufBytes, latchRegion_lat,
    clearError_arg0, clearError_arg1, addrBytes_args, List.append_assoc]
  rfl

/-- Settles O26. -/
theorem displayRequestsStartTheRefresh : Obligations.DisplayRequestsStartTheRefresh := by
  intro f s hb hm
  simp only [exec, execDisplay, execUpdateAndDisplay]
  refine ⟨takeRequest_accepted hb (by simp [hm]) rfl, (takeRequest_accepted hb (by simp [hm]) rfl).trans ?_⟩
  simp only [startRequest, fullSeq, data_inv_fbBytes, List.append_assoc]
  rfl

/-- Settles O27. -/
theorem clearFrameSendsTheBackground : Obligations.ClearFrameSendsTheBackground := by
  intro f s hb hm
  simp only [exec, execClearFrame]
  refine (takeRequest_accepted hb (by simp [hm]) rfl).trans ?_
  simp only [startRequest, fullSeq, data_inv_background, List.append_assoc]
  rfl

end Sys2Proof.Machine
end

section
/-! The events of a request that completes: every micro-op but DONE has one, so they are counted and placed along the
micro-sequence that acceptance put in SEQ. -/

namespace Sys2Proof.Machine

/-! ## Events along a micro-sequence -/

/-- A run of DATA micro-ops emits its bytes in order. -/
theorem successEvents_map_data {α : Type} (xs : List α) (g : α → Byte) :
    successEvents (xs.map fun x => MicroOp.data (g x)) = xs.map fun x => WireEvent.data (g x) := by
  induction xs with
  | nil => rfl
  | cons x xs ih => exact congrArg (WireEvent.data (g x) :: ·) ih

theorem successEvents_dataOps (bs : List Byte) : successEvents (Expected.dataOps bs) = bs.map WireEvent.data :=
  successEvents_map_data bs id

/-- Data bytes are no waits. -/
theorem count_wait_map_data {α : Type} (xs : List α) (g : α → Byte) :
    (xs.map fun x => WireEvent.data (g x)).count .wait = 0 :=
  List.count_eq_zero.2 (by simp)

theorem count_wait_bytes (bs : List Byte) : (bs.map WireEvent.data).count .wait = 0 := count_wait_map_data bs id

/-- DONE emits nothing. -/
theorem successEvents_append_finish (ops : List MicroOp) (m : Option Mode) :
    successEvents (ops ++ [MicroOp.finish m]) = successEvents ops := by
  rw [successEvents_append]
  exact List.append_nil _

/-! ## The lifecycle micro-sequences -/

theorem successEvents_lutOps : successEvents Expected.lutOps =
    (WireEvent.wait :: WireEvent.cmd 0x20#8 :: Config.lutVcom.map WireEvent.data) ++
      (WireEvent.cmd 0x21#8 :: Config.lutWw.map WireEvent.data) ++
      (WireEvent.cmd 0x22#8 :: Config.lutBw.map WireEvent.data) ++
      (WireEvent.cmd 0x23#8 :: Config.lutWb.map WireEvent.data) ++
      (WireEvent.cmd 0x24#8 :: Config.lutBb.map WireEvent.data) := by
  simp only [Expected.lutOps, successEvents_append, successEvents_cons, successEvents_dataOps, MicroOp.event,
    Option.toList_some, List.cons_append, List.nil_append]

/-- Six events that are no LUT byte, the first of them the wait (42_lifecycle.md R197). -/
theorem length_successEvents_lutOps : (successEvents Expected.lutOps).length =
    6 + (Config.lutVcom.length + Config.lutWw.length + Config.lutBw.length + Config.lutWb.length +
      Config.lutBb.length) := by
  simp only [successEvents_lutOps, List.length_append, List.length_cons, List.length_map]
  omega

theorem count_wait_lutOps : (successEvents Expected.lutOps).count .wait = 1 := by
  simp [successEvents_lutOps, List.count_append, count_wait_bytes]

theorem length_successEvents_powerUpOps : (successEvents Expected.powerUpOps).length = 42 := rfl

theorem count_wait_powerUpOps : (successEvents Expected.powerUpOps).count .wait = 1 := rfl

/-- The events of an accepted INIT or WAKE (42_lifecycle.md R192, R193). -/
theorem initOps_event_counts :
    (successEvents (Expected.initOps ++ [MicroOp.finish (some .active)])).length = 48 + (Config.lutVcom.length +
      Config.lutWw.length + Config.lutBw.length + Config.lutWb.length + Config.lutBb.length) ∧
    (successEvents (Expected.initOps ++ [MicroOp.finish (some .active)])).count .wait = 2 := by
  rw [successEvents_append_finish, Expected.initOps, successEvents_append, List.length_append, List.count_append,
    length_successEvents_powerUpOps, length_successEvents_lutOps, count_wait_powerUpOps, count_wait_lutOps]
  omega

/-! ## The frame transfer -/

/-- The data events of a frame: the complement of every FB byte in ascending order. -/
def frameEvents (s : State) : List WireEvent := (List.range 5808).map fun j => WireEvent.data (~~~(fbByte s j))

theorem length_frameEvents (s : State) : (frameEvents s).length = 5808 := by
  rw [frameEvents, List.length_map, List.length_range]

theorem getElem?_frameEvents (s : State) {j : Nat} (hj : j < 5808) :
    (frameEvents s)[j]? = some (WireEvent.data (~~~(fbByte s j))) := by
  rw [frameEvents, List.getElem?_map, List.getElem?_range hj, Option.map_some]

theorem successEvents_frame (s : State) (rest : List MicroOp) :
    successEvents ([MicroOp.cmd 0x13#8] ++ (List.range 5808).map (fun j => MicroOp.data (~~~(fbByte s j))) ++ rest) =
      .cmd 0x13#8 :: (frameEvents s ++ successEvents rest) := by
  rw [successEvents_append, successEvents_append, successEvents_map_data, ← frameEvents, List.append_assoc]
  exact List.singleton_append

/-! ## The obligations -/

/-- Settles O36, on the micro-sequences O21 and O23 put in SEQ. -/
theorem lifecycleEventCounts : Obligations.LifecycleEventCounts := by
  intro f s t hb
  obtain ⟨hinit, hwake⟩ := initAndWakeStartTheInitSequence f s hb
  constructor
  · rintro (⟨hm, ht⟩ | ⟨hm, ht⟩)
    · cases (hinit hm).symm.trans ht
      exact initOps_event_counts
    · cases (hwake hm).symm.trans ht
      exact initOps_event_counts
  · intro hm ht
    cases (loadLutsStartsTheLutSequence f s hb hm).symm.trans ht
    rw [successEvents_append_finish]
    exact ⟨length_successEvents_lutOps, count_wait_lutOps⟩

/-- Settles O37, on the micro-sequences O24 and O26 put in SEQ. -/
theorem frameTransferEvents : Obligations.FrameTransferEvents := by
  intro f s t hb hm
  constructor
  · intro ht
    cases (updateFullStartsTheFrameTransfer f s hb hm).symm.trans ht
    exact ⟨_, successEvents_frame s _, length_frameEvents s, fun j => getElem?_frameEvents s⟩
  · intro ht
    cases ((displayRequestsStartTheRefresh f s hb hm).2).symm.trans ht
    exact ⟨_, successEvents_frame s _, length_frameEvents s, fun j => getElem?_frameEvents s⟩

/-- Settles O38, on the micro-sequence O25 puts in SEQ. -/
theorem regionTransferEventCount : Obligations.RegionTransferEventCount := by
  intro f s t hb hm hlen ht
  cases (updatePartialStartsTheRegionTransfer f s hb hm hlen).symm.trans ht
  simp only [successEvents_append, successEvents_map_data, successEvents_cons, MicroOp.event]
  refine ⟨?_, ?_, rfl⟩
  · simp only [List.length_append, List.length_map, List.length_range]
    simp +arith [successEvents]
  · simp only [List.count_append, count_wait_map_data]
    rfl

end Sys2Proof.Machine
end

section
/-! One step of the sequencer at each micro-op (41_sequencer.md), whichever way the host lets it move: with nothing to
do, by `pass`, or polling STATUS. -/

namespace Sys2Proof.Machine

/-! ## The sequencer at the head of SEQ -/

theorem sequencerStep_nil {s : State} (h : s.seq = []) : sequencerStep s = .next s := by
  rw [sequencerStep, h]

/-- A CMD runs the command its byte decodes to (41_sequencer.md R162). -/
theorem sequencerStep_cmd {s : State} {b : Byte} {rest : List MicroOp} {i : Instr} (h : s.seq = .cmd b :: rest)
    (hi : decode (.command b) = .ok i) : sequencerStep s = exec i (advance rest s) := by
  rw [sequencerStep, h]
  simp only [hi]

/-- A CMD of the table and a DATA both send their byte. -/
theorem sequencerStep_send {s : State} {k : TxKind} {b : Byte} {rest : List MicroOp} (h : s.seq = sendOp k b :: rest)
    (hcmd : k = .cmd → ∃ i, decode (.command b) = .ok i) :
    sequencerStep s = .next (transmit k b (advance rest s)) := by
  cases k with
  | cmd =>
    obtain ⟨i, hi⟩ := hcmd rfl
    rw [sequencerStep_cmd h hi, exec_command (fields_of_decode_command hi), opcode_of_decode_command hi]
  | data => rw [sequencerStep, h]; rfl

theorem sequencerStep_wait {s : State} {rest : List MicroOp} (h : s.seq = .wait :: rest) :
    sequencerStep s = .next (stepWait rest s) := by
  rw [sequencerStep, h]

theorem sequencerStep_reset {s : State} {n d : Nat} {rest : List MicroOp} (h : s.seq = .reset n d :: rest) :
    sequencerStep s = .next (stepReset n d rest s) := by
  rw [sequencerStep, h]

theorem sequencerStep_finish {s : State} {m : Option Mode} {rest : List MicroOp} (h : s.seq = .finish m :: rest) :
    sequencerStep s = .next (stepFinish m s) := by
  rw [sequencerStep, h]

/-! ## Steps by the environment's answer -/

/-- A delivered byte (41_sequencer.md R162, R163). -/
theorem sequencerStep_delivered {s : State} {k : TxKind} {b : Byte} {rest : List MicroOp}
    (hs : s.seq = sendOp k b :: rest) (hcmd : k = .cmd → ∃ i, decode (.command b) = .ok i)
    (h : (answerAt s 0).txOk = true) :
    sequencerStep s = .next { s with
      seq := rest, upc := s.upc + 1, trace := s.trace ++ [sentEvent k b]
      env := s.env.tail, draws := s.draws + 1 } := by
  rw [sequencerStep_send hs hcmd]
  rcases send_cases (s := s) (td := s.todo) (hd := s.hostData) rfl with ⟨-, e⟩ | ⟨hfail, -⟩
  · exact congrArg _ e
  · exact absurd (h.symm.trans hfail) (by decide)

/-- A failed byte (41_sequencer.md R169). -/
theorem sequencerStep_failed {s : State} {k : TxKind} {b : Byte} {rest : List MicroOp}
    (hs : s.seq = sendOp k b :: rest) (hcmd : k = .cmd → ∃ i, decode (.command b) = .ok i)
    (h : (answerAt s 0).txOk = false) :
    sequencerStep s = .next { s with
      trace := s.trace ++ [WireEvent.txFail k b], lastErr := .transportError, stickyTx := true, mode := .indeterminate
      seq := [], upc := 0, busy := false, waiting := false, env := s.env.tail, draws := s.draws + 1 } := by
  rw [sequencerStep_send hs hcmd]
  rcases send_cases (s := s) (td := s.todo) (hd := s.hostData) rfl with ⟨hok, -⟩ | ⟨-, e⟩
  · exact absurd (h.symm.trans hok) (by decide)
  · exact congrArg _ e

/-- A sample at the busy level (41_sequencer.md R165). -/
theorem sequencerStep_wait_busy {s : State} {rest : List MicroOp} (hs : s.seq = .wait :: rest)
    (h : (answerAt s 0).line = BUSY_ACTIVE_LEVEL) :
    sequencerStep s = .next { s with waiting := true, env := s.env.tail, draws := s.draws + 1 } := by
  rw [sequencerStep_wait hs]
  rcases wait_cases (s := s) (td := s.todo) (hd := s.hostData) rfl with ⟨-, e⟩ | ⟨hidle, -⟩
  · exact congrArg _ e
  · exact absurd h hidle

/-- A sample at the idle level (41_sequencer.md R166). -/
theorem sequencerStep_wait_idle {s : State} {rest : List MicroOp} (hs : s.seq = .wait :: rest)
    (h : (answerAt s 0).line ≠ BUSY_ACTIVE_LEVEL) :
    sequencerStep s = .next { s with
      waiting := false, seq := rest, upc := s.upc + 1, trace := s.trace ++ [WireEvent.wait]
      env := s.env.tail, draws := s.draws + 1 } := by
  rw [sequencerStep_wait hs]
  rcases wait_cases (s := s) (td := s.todo) (hd := s.hostData) rfl with ⟨hbusy, -⟩ | ⟨-, e⟩
  · exact absurd hbusy h
  · exact congrArg _ e

/-! ## Whose turn it is -/

/-- While the host polls STATUS with BUSY = 1 the sequencer moves, the host holding the STATUS word. -/
theorem step_of_poll_busy {s : State} {rest : List HostAction} (ht : s.todo = .waitDone :: rest) (hb : s.busy = true) :
    step s = sequencerStep { s with hostData := statusWord s } :=
  (step_of_todo_cons ht).trans (if_pos hb)

/-- The poll loop ends when STATUS reads BUSY = 0. -/
theorem step_of_poll_idle {s : State} {rest : List HostAction} (ht : s.todo = .waitDone :: rest) (hb : s.busy = false) :
    step s = .next (hostRead 0x14#5 { s with todo := rest }) :=
  (step_of_todo_cons ht).trans (if_neg (Bool.eq_false_iff.1 hb))

/-- No register shows the host's coming actions. -/
theorem readReg_withTodo (off : BitVec 5) (rest : List HostAction) (s : State) :
    readReg off { s with todo := rest } = readReg off s := by
  unfold readReg
  split <;> rfl

/-- What the sequencer does wherever the host stands, it does at each of its turns. -/
theorem sequencerTurn_of_sequencerStep {s : State} {f : State → State}
    (h : ∀ todo hostData, sequencerStep { s with todo := todo, hostData := hostData } =
      .next (f { s with todo := todo, hostData := hostData })) : Expected.sequencerTurn s f :=
  ⟨fun ht => (step_of_todo_nil ht).trans (h s.todo s.hostData),
    fun rest ht => (step_of_todo_cons ht).trans (h rest s.hostData),
    fun _ ht hb => (step_of_poll_busy ht hb).trans (h s.todo (statusWord s))⟩

/-! ## The obligations -/

/-- Settles O7. -/
theorem sequencerRunsDecodedCommand : Obligations.SequencerRunsDecodedCommand := fun _ _ _ _ hs hi =>
  ⟨fun ht => (step_of_todo_nil ht).trans (sequencerStep_cmd hs hi),
    fun _ ht => (step_of_todo_cons ht).trans (sequencerStep_cmd hs hi),
    fun _ ht hb => (step_of_poll_busy ht hb).trans (sequencerStep_cmd hs hi)⟩

/-- Settles O8. -/
theorem readsAndIdleStepsChangeNothingElse : Obligations.ReadsAndIdleStepsChangeNothingElse := by
  refine ⟨fun s rest off ht => ?_, fun s rest ht hb => step_of_poll_idle ht hb, fun s ht hs => ?_⟩
  · refine (step_of_todo_cons ht).trans ?_
    rw [hostStep, hostRead, readReg_withTodo]
  · rw [step_of_todo_nil ht, sequencerStep_nil hs]

/-- Settles O28: each of the twenty-one is the transmission of its own byte. -/
theorem wireCommandsEmitOrAbort : Obligations.WireCommandsEmitOrAbort := by
  intro s row hrow
  have hbyte : row.1.fields = none ∧ opcode row.1 = row.2 := by
    revert row
    decide
  obtain ⟨hfields, hop⟩ := hbyte
  rw [exec_command hfields, hop, ← nextAnswer_eq]
  exact ⟨fun h => congrArg _ (if_pos h), fun h => congrArg _ (if_neg (Bool.eq_false_iff.1 h))⟩

/-- Settles O29. -/
theorem dataStepEmitsOrAborts : Obligations.DataStepEmitsOrAborts := by
  intro s b ops hs
  constructor <;> intro h <;> refine sequencerTurn_of_sequencerStep fun todo hostData => ?_
  · exact sequencerStep_delivered (s := { s with todo := todo, hostData := hostData }) (k := .data) hs nofun h
  · exact sequencerStep_failed (s := { s with todo := todo, hostData := hostData }) (k := .data) hs nofun h

/-- Settles O30. -/
theorem waitStepPollsOrReturns : Obligations.WaitStepPollsOrReturns := by
  intro s ops hs
  constructor <;> intro h <;> refine sequencerTurn_of_sequencerStep fun todo hostData => ?_
  · exact sequencerStep_wait_busy (s := { s with todo := todo, hostData := hostData }) hs h
  · have hidle : (answerAt s 0).line ≠ BUSY_ACTIVE_LEVEL := by rw [h]; decide
    exact sequencerStep_wait_idle (s := { s with todo := todo, hostData := hostData }) hs hidle

/-- Settles O31. -/
theorem resetAndDoneSteps : Obligations.ResetAndDoneSteps := by
  refine ⟨fun s n d ops hs => ?_, fun s m ops hs => ?_⟩
  · exact sequencerTurn_of_sequencerStep fun _ _ => sequencerStep_reset hs
  · refine sequencerTurn_of_sequencerStep fun todo hostData => ?_
    refine (sequencerStep_finish (s := { s with todo := todo, hostData := hostData }) hs).trans ?_
    cases m <;> rfl

end Sys2Proof.Machine
end

section
/-! Runs of a request in flight. While the host has nothing to do or polls STATUS, every step is the sequencer's; a step
that neither fails nor ends the request is an `Advance`, advances compose, and an induction over the answers that bring
the micro-ops to their end makes one of them for the whole run (41_sequencer.md sections 4 and 6). -/

namespace Sys2Proof.Machine

/-! ## Advances -/

/-- `t` is `s` after the sequencer emitted `es`, one event for each micro-op it completed, took `d` answers, left `rest`
in SEQ and WAITING at `w`; the host, if it has actions at all, may have read STATUS. -/
def Advance (s : State) (es : List WireEvent) (rest : List MicroOp) (d : Nat) (w : Bool) (t : State) : Prop :=
  ∃ hd, (s.todo = [] → hd = s.hostData) ∧ t = { s with
    trace := s.trace ++ es, seq := rest, upc := s.upc + es.length, waiting := w, env := s.env.drop d
    draws := s.draws + d, hostData := hd }

theorem Advance.refl (s : State) : Advance s [] s.seq 0 s.waiting s :=
  ⟨s.hostData, fun _ => rfl, by simp⟩

theorem Advance.trans {s u t : State} {es es' : List WireEvent} {rest rest' : List MicroOp} {d d' : Nat} {w w' : Bool}
    (h : Advance s es rest d w u) (h' : Advance u es' rest' d' w' t) :
    Advance s (es ++ es') rest' (d + d') w' t := by
  obtain ⟨hd, hhd, rfl⟩ := h
  obtain ⟨hd', hhd', rfl⟩ := h'
  refine ⟨hd', fun ht => (hhd' ht).trans (hhd ht), ?_⟩
  simp only [List.append_assoc, List.length_append, List.drop_drop, Nat.add_assoc]

theorem Advance.seq_eq {s t : State} {es : List WireEvent} {rest : List MicroOp} {d : Nat} {w : Bool}
    (h : Advance s es rest d w t) : t.seq = rest := by
  obtain ⟨hd, -, rfl⟩ := h; rfl

theorem Advance.sequencerRuns {s t : State} {es : List WireEvent} {rest : List MicroOp} {d : Nat} {w : Bool}
    (h : Advance s es rest d w t) (hr : SequencerRuns s) : SequencerRuns t := by
  obtain ⟨hd, -, rfl⟩ := h
  exact hr.congr rfl rfl

/-- The answers an advance took are gone; the others come in the same order. -/
theorem Advance.answerAt_eq {s t : State} {es : List WireEvent} {rest : List MicroOp} {d : Nat} {w : Bool}
    (h : Advance s es rest d w t) (n : Nat) : answerAt t n = answerAt s (d + n) := by
  obtain ⟨hd, -, rfl⟩ := h
  simp only [answerAt, List.getElem?_drop, Nat.add_assoc]

theorem Advance.answers {s t : State} {es : List WireEvent} {rest : List MicroOp} {d n : Nat} {w : Bool}
    {a : Nat → EnvAnswer} (h : Advance s es rest d w t) (ha : ∀ j, answerAt s j = a (n + j)) (j : Nat) :
    answerAt t j = a (n + d + j) := by
  rw [h.answerAt_eq, ha, Nat.add_assoc]

/-! ## Single steps -/

theorem step_delivered {s : State} {k : TxKind} {b : Byte} {rest : List MicroOp} (hr : SequencerRuns s)
    (hs : s.seq = sendOp k b :: rest) (hcmd : k = .cmd → ∃ i, decode (.command b) = .ok i)
    (h : (answerAt s 0).txOk = true) :
    ∃ t, step s = .next t ∧ Advance s [sentEvent k b] rest 1 s.waiting t := by
  obtain ⟨hd, hhd, hstep⟩ := step_of_sequencerRuns hr
  refine ⟨_, hstep.trans (sequencerStep_delivered (s := { s with hostData := hd }) hs hcmd h), hd, hhd, ?_⟩
  simp only [List.drop_one, List.length_singleton]

theorem step_failed {s : State} {k : TxKind} {b : Byte} {rest : List MicroOp} (hr : SequencerRuns s)
    (hs : s.seq = sendOp k b :: rest) (hcmd : k = .cmd → ∃ i, decode (.command b) = .ok i)
    (h : (answerAt s 0).txOk = false) :
    ∃ hd, (s.todo = [] → hd = s.hostData) ∧ step s = .next { s with
      trace := s.trace ++ [WireEvent.txFail k b], lastErr := .transportError, stickyTx := true, mode := .indeterminate
      seq := [], upc := 0, busy := false, waiting := false, env := s.env.tail, draws := s.draws + 1
      hostData := hd } := by
  obtain ⟨hd, hhd, hstep⟩ := step_of_sequencerRuns hr
  exact ⟨hd, hhd, hstep.trans (sequencerStep_failed (s := { s with hostData := hd }) hs hcmd h)⟩

theorem step_wait_busy {s : State} {rest : List MicroOp} (hr : SequencerRuns s) (hs : s.seq = .wait :: rest)
    (h : (answerAt s 0).line = BUSY_ACTIVE_LEVEL) :
    ∃ t, step s = .next t ∧ Advance s [] s.seq 1 true t := by
  obtain ⟨hd, hhd, hstep⟩ := step_of_sequencerRuns hr
  refine ⟨_, hstep.trans (sequencerStep_wait_busy (s := { s with hostData := hd }) hs h), hd, hhd, ?_⟩
  simp only [List.drop_one, List.append_nil, List.length_nil, Nat.add_zero]

theorem step_wait_idle {s : State} {rest : List MicroOp} (hr : SequencerRuns s) (hs : s.seq = .wait :: rest)
    (h : (answerAt s 0).line ≠ BUSY_ACTIVE_LEVEL) :
    ∃ t, step s = .next t ∧ Advance s [.wait] rest 1 false t := by
  obtain ⟨hd, hhd, hstep⟩ := step_of_sequencerRuns hr
  refine ⟨_, hstep.trans (sequencerStep_wait_idle (s := { s with hostData := hd }) hs h), hd, hhd, ?_⟩
  simp only [List.drop_one, List.length_singleton]

theorem step_reset {s : State} {n d : Nat} {rest : List MicroOp} (hr : SequencerRuns s)
    (hs : s.seq = .reset n d :: rest) : ∃ t, step s = .next t ∧ Advance s [.reset n d] rest 0 s.waiting t := by
  obtain ⟨hd, hhd, hstep⟩ := step_of_sequencerRuns hr
  exact ⟨_, hstep.trans (sequencerStep_reset (s := { s with hostData := hd }) hs), hd, hhd, rfl⟩

theorem step_finish {s : State} {m : Option Mode} {rest : List MicroOp} (hr : SequencerRuns s)
    (hs : s.seq = .finish m :: rest) :
    ∃ hd, (s.todo = [] → hd = s.hostData) ∧ step s = .next { s with
      mode := m.getD s.mode, seq := [], upc := 0, busy := false, waiting := false, hostData := hd } := by
  obtain ⟨hd, hhd, hstep⟩ := step_of_sequencerRuns hr
  exact ⟨hd, hhd, hstep.trans (sequencerStep_finish (s := { s with hostData := hd }) hs)⟩

/-! ## Many steps -/

/-- `r` steps from `s` are an advance. -/
def AdvancesIn (s : State) (es : List WireEvent) (rest : List MicroOp) (d r : Nat) : Prop :=
  ∃ w t, steps r s = .next t ∧ Advance s es rest d w t

/-- A first step and the run of the micro-ops it leaves make the run of them all. The step takes one answer, or none and
completes a RESET. -/
theorem AdvancesIn.of_step {s u : State} {es : List WireEvent} {ops ops' rest : List MicroOp} {n k e : Nat} {w : Bool}
    (hstep : step s = .next u) (hu : Advance s es (ops ++ rest) e w u)
    (hev : successEvents ops' = es ++ successEvents ops) (hcount : e + resetCount ops' = 1 + resetCount ops)
    (hrun : ∃ d, k = n + e + d ∧ AdvancesIn u (successEvents ops) rest d (d + resetCount ops)) :
    ∃ d, k = n + d ∧ AdvancesIn s (successEvents ops') rest d (d + resetCount ops') := by
  obtain ⟨d, rfl, w', t, ht, hadv⟩ := hrun
  refine ⟨e + d, Nat.add_assoc .., w', t, ?_, hev ▸ hu.trans hadv⟩
  rw [show e + d + resetCount ops' = d + resetCount ops + 1 by omega, steps, hstep]
  exact ht

/-- Answers that bring micro-ops to their end run them: one step per answer and one per RESET, their events in order
(41_sequencer.md R177). -/
theorem advancesIn_of_delivered {a : Nat → EnvAnswer} {n k : Nat} {ops : List MicroOp} (h : Delivered a n ops k)
    {s : State} {rest : List MicroOp} (hr : SequencerRuns s) (hs : s.seq = ops ++ rest)
    (hcmd : ∀ b, MicroOp.cmd b ∈ ops → ∃ i, decode (.command b) = .ok i) (ha : ∀ j, answerAt s j = a (n + j)) :
    ∃ d, k = n + d ∧ AdvancesIn s (successEvents ops) rest d (d + resetCount ops) := by
  induction h generalizing s with
  | nil =>
    have hrefl := Advance.refl s
    rw [hs] at hrefl
    exact ⟨0, rfl, s.waiting, s, rfl, hrefl⟩
  | @cmd n k b ops ok h ih =>
    obtain ⟨u, hstep, hu⟩ := step_delivered (k := .cmd) hr hs (fun _ => hcmd b List.mem_cons_self) (by rwa [ha])
    exact AdvancesIn.of_step hstep hu rfl rfl
      (ih (hu.sequencerRuns hr) hu.seq_eq (fun c hc => hcmd c (.tail _ hc)) (hu.answers ha))
  | @data n k b ops ok h ih =>
    obtain ⟨u, hstep, hu⟩ := step_delivered (k := .data) hr hs nofun (by rwa [ha])
    exact AdvancesIn.of_step hstep hu rfl rfl
      (ih (hu.sequencerRuns hr) hu.seq_eq (fun c hc => hcmd c (.tail _ hc)) (hu.answers ha))
  | busy line h ih =>
    obtain ⟨u, hstep, hu⟩ := step_wait_busy hr hs (by rwa [ha])
    rw [hs] at hu
    exact AdvancesIn.of_step hstep hu rfl rfl (ih (hu.sequencerRuns hr) hu.seq_eq hcmd (hu.answers ha))
  | idle line h ih =>
    obtain ⟨u, hstep, hu⟩ := step_wait_idle hr hs (by rwa [ha])
    exact AdvancesIn.of_step hstep hu rfl rfl
      (ih (hu.sequencerRuns hr) hu.seq_eq (fun c hc => hcmd c (.tail _ hc)) (hu.answers ha))
  | @reset n k p d ops h ih =>
    obtain ⟨u, hstep, hu⟩ := step_reset hr hs
    exact AdvancesIn.of_step hstep hu rfl (by rw [resetCount_cons]; simp [MicroOp.isReset])
      (ih (hu.sequencerRuns hr) hu.seq_eq (fun c hc => hcmd c (.tail _ hc)) (hu.answers ha))

/-- A WAIT whose samples are all busy holds, however many they are (41_sequencer.md R174). -/
theorem steps_wait_busy (k : Nat) {s : State} {ops : List MicroOp} (hr : SequencerRuns s) (hs : s.seq = .wait :: ops)
    (h : ∀ n, n ≤ k → (answerAt s n).line = BUSY_ACTIVE_LEVEL) :
    ∃ t, steps (k + 1) s = .next t ∧ Advance s [] s.seq (k + 1) true t := by
  induction k with
  | zero =>
    obtain ⟨t, hstep, ht⟩ := step_wait_busy hr hs (h 0 le_rfl)
    exact ⟨t, (steps_one s).trans hstep, ht⟩
  | succ k ih =>
    obtain ⟨u, hrun, hu⟩ := ih fun n hn => h n (by omega)
    obtain ⟨t, hstep, ht⟩ := step_wait_busy (hu.sequencerRuns hr) (hu.seq_eq.trans hs)
      (by rw [hu.answerAt_eq]; exact h _ le_rfl)
    refine ⟨t, ?_, hu.seq_eq ▸ hu.trans ht⟩
    rw [steps_add hrun, steps_one, hstep]

/-! ## The obligations -/

/-- Settles O32: the run to DONE, then DONE's own step. -/
theorem completedRequestEmitsItsMicroSequence : Obligations.CompletedRequestEmitsItsMicroSequence := by
  intro s ops m k hr hs hcmd hdel
  obtain ⟨d, hk, w, u, hrun, hu⟩ := advancesIn_of_delivered hdel hr hs hcmd fun j => by rw [Nat.zero_add]
  rw [Nat.zero_add] at hk
  subst hk
  obtain ⟨hd', hhd', hstep⟩ := step_finish (hu.sequencerRuns hr) hu.seq_eq
  rw [steps_add hrun, steps_one, hstep]
  obtain ⟨hd, hhd, rfl⟩ := hu
  exact ⟨_, rfl, fun ht => (hhd' ht).trans (hhd ht), rfl⟩

/-- Settles O33: the run to the failing byte, then the step that aborts. -/
theorem failedTransmissionEndsTheRequest : Obligations.FailedTransmissionEndsTheRequest := by
  intro s before after kind b k hr hs hcmd hdel hfail
  have hs' : s.seq = before ++ sendOp kind b :: after := by cases kind <;> exact hs
  obtain ⟨d, hk, w, u, hrun, hu⟩ := advancesIn_of_delivered hdel hr hs'
    (fun c hc => hcmd c (by simp [hs', hc])) fun j => by rw [Nat.zero_add]
  rw [Nat.zero_add] at hk
  subst hk
  obtain ⟨hd', hhd', hstep⟩ := step_failed (hu.sequencerRuns hr) hu.seq_eq
    (by rintro rfl; exact hcmd b (by simp [hs', sendOp])) (by rw [hu.answerAt_eq]; exact hfail)
  rw [steps_add hrun, steps_one, hstep]
  obtain ⟨hd, hhd, rfl⟩ := hu
  refine ⟨_, rfl, fun ht => (hhd' ht).trans (hhd ht), ?_⟩
  simp only [List.tail_drop, Nat.add_assoc]

/-- Settles O34. -/
theorem busyLineHoldsTheWait : Obligations.BusyLineHoldsTheWait := by
  intro k s ops hr hs h
  obtain ⟨t, hrun, hd, hhd, rfl⟩ := steps_wait_busy k hr hs h
  refine ⟨_, hrun, hhd, ?_⟩
  simp only [List.append_nil, List.length_nil, Nat.add_zero]

/-- Settles O35: the write of REQ0 puts SLEEP's micro-sequence in SEQ (O22), and its five bytes run to DONE (O32). -/
theorem sleepRunEmitsFiveEvents : Obligations.SleepRunEmitsFiveEvents := by
  intro f s rest hb hm ht hrest hok
  have hstart := (step_of_request ht (decode_encode (.sleep f))).trans
    (sleepStartsItsSequence f { s with todo := rest, req0 := requestWord 0x03#8 f } hb hm)
  have hdel : Delivered (answerAt s) 0 sleepSeq 5 :=
    .cmd (hok 0 (by omega)) <| .data (hok 1 (by omega)) <| .cmd (hok 2 (by omega)) <| .cmd (hok 3 (by omega)) <|
      .data (hok 4 (by omega)) .nil
  have hcmd (b : Byte) (hb : MicroOp.cmd b ∈ sleepSeq) : ∃ i, decode (.command b) = .ok i := by
    obtain ⟨i, hi, -⟩ := sequenceBody_sleepSeq.2 b hb
    exact ⟨i, hi⟩
  rw [show 7 = 6 + 1 from rfl, steps, hstart]
  obtain ⟨t, hrun, -, hend⟩ := completedRequestEmitsItsMicroSequence { s with
      todo := rest, req0 := requestWord 0x03#8 f, seq := sleepSeq ++ [MicroOp.finish (some .sleeping)]
      upc := 0, busy := true, lastErr := .none
      lat := { s.lat with op := 0x03#8, color := f.color, rot := f.rotf } }
    sleepSeq (some .sleeping) 5 (hrest.imp id fun ⟨more, h⟩ => ⟨rfl, more, h⟩) rfl hcmd hdel
  refine ⟨t, hrun, ?_⟩
  rw [hend]
  exact ⟨rfl, rfl, rfl, rfl, rfl, rfl, rfl⟩

end Sys2Proof.Machine
end

section
/-! Pixels (20_memory.md sections 2, 5 and 6, 40_framebuffer.md sections 2 and 6). A pixel of the panel is one bit of
one FB byte, and each orientation's translation is one-to-one onto the panel, so a DRAW_PIXEL changes one bit, repeating
it changes nothing, and drawing every logical pixel sets every bit. -/

namespace Sys2Proof.Machine

/-! ## The map of FB -/

/-- The pixel of a bit of FB, and its place back again (20_memory.md R73). -/
theorem framebufferMap_bit {i k : Nat} (hi : i < 5808) (hk : k < 8) :
    8 * (i % 33) + k < 264 ∧ i / 33 < 176 ∧ pixelIndex (8 * (i % 33) + k, i / 33) = i ∧
      pixelBit (8 * (i % 33) + k, i / 33) = 7 - k := by
  simp only [pixelIndex, pixelBit, ROW_BYTES]
  omega

theorem pixelBit_lt (p : Nat × Nat) : pixelBit p < 8 := by
  simp only [pixelBit]
  omega

/-- No two pixels of the panel share a bit (20_memory.md R61, R62). -/
theorem pixel_eq_of_index_bit {p q : Nat × Nat} (hp : p.1 < 264) (hq : q.1 < 264) (hi : pixelIndex p = pixelIndex q)
    (hb : pixelBit p = pixelBit q) : p = q := by
  simp only [pixelIndex, pixelBit, ROW_BYTES] at hi hb
  ext <;> omega

/-! ## The translations -/

theorem xlate_surjective (r : Rotation) {px py : Nat} (hx : px < 264) (hy : py < 176) :
    ∃ x y, x < (logicalSize r).1 ∧ y < (logicalSize r).2 ∧ xlate r x y = (px, py) := by
  cases r <;> simp only [logicalSize, xlate, WIDTH, HEIGHT, Prod.mk.injEq]
  case deg0 => exact ⟨px, py, hx, hy, rfl, rfl⟩
  case deg90 => exact ⟨py, 263 - px, by omega⟩
  case deg180 => exact ⟨263 - px, 175 - py, by omega⟩
  case deg270 => exact ⟨175 - py, px, by omega⟩

theorem xlate_injective {r : Rotation} {x y x' y' : Nat} (hx : x < (logicalSize r).1) (hy : y < (logicalSize r).2)
    (hx' : x' < (logicalSize r).1) (hy' : y' < (logicalSize r).2) (h : xlate r x y = xlate r x' y') :
    x = x' ∧ y = y' := by
  cases r <;> simp only [logicalSize, xlate, WIDTH, HEIGHT, Prod.mk.injEq] at * <;> omega

/-- The logical area of an orientation fits a signed 16-bit field. -/
theorem logicalSize_le (r : Rotation) : (logicalSize r).1 ≤ 264 ∧ (logicalSize r).2 ≤ 264 := by
  cases r <;> decide

/-! ## DRAW_PIXEL -/

theorem setPixelBit_setPixelBit (b : Byte) {k : Nat} (hk : k < 8) (c : Colour) :
    setPixelBit (setPixelBit b k c) k c = setPixelBit b k c := by
  apply BitVec.eq_of_getLsbD_eq
  intro j hj
  simp only [getLsbD_setPixelBit _ _ hk hj]
  split <;> rfl

/-- An idle block accepts a DRAW_PIXEL in every MODE. -/
theorem exec_drawPixel {s : State} (f : ReqFields) (hb : s.busy = false) :
    exec (.drawPixel f) s = drawPixel (latchPoint 0x15#8 f (clearError s)) := by
  simp only [exec, execDrawPixel]
  exact takeRequest_accepted hb rfl rfl

/-- An accepted DRAW_PIXEL whose coordinate is outside the logical area only latches (40_framebuffer.md R136). -/
theorem exec_drawPixel_outside {s : State} (f : ReqFields) (hb : s.busy = false)
    (h : inArea s.rot (s.arg0.extractLsb' 0 16).toInt (s.arg0.extractLsb' 16 16).toInt = false) :
    exec (.drawPixel f) s = .next (latchPoint 0x15#8 f (clearError s)) := by
  rw [exec_drawPixel f hb]
  exact if_neg (Bool.eq_false_iff.1 h)

/-- From `s` to `t` the bit of pixel `p` took colour `c` and every other byte of FB stayed. -/
def PixelDrawn (c : Colour) (p : Nat × Nat) (s t : State) : Prop :=
  fbByte t (pixelIndex p) = setPixelBit (fbByte s (pixelIndex p)) (pixelBit p) c ∧
    ∀ j, j ≠ pixelIndex p → fbByte t j = fbByte s j

/-- The bit of pixel `p` takes colour `c`. -/
def setPixel (c : Colour) (p : Nat × Nat) (s : State) : State :=
  { s with
    fb := Memory.write (some FB_BLANK) (pixelIndex p) (setPixelBit (fbByte s (pixelIndex p)) (pixelBit p) c) s.fb }

theorem fbByte_setPixel (c : Colour) (p : Nat × Nat) (s : State) (j : Nat) : fbByte (setPixel c p s) j =
    if j = pixelIndex p then setPixelBit (fbByte s (pixelIndex p)) (pixelBit p) c else fbByte s j :=
  fbByte_write rfl j

theorem pixelDrawn_setPixel (c : Colour) (p : Nat × Nat) (s : State) : PixelDrawn c p s (setPixel c p s) :=
  ⟨(fbByte_setPixel ..).trans (if_pos rfl), fun _ hj => (fbByte_setPixel ..).trans (if_neg hj)⟩

/-- A bit that has its colour keeps it, and a byte written again leaves the memory in the same form. -/
theorem setPixel_setPixel (c : Colour) (p : Nat × Nat) (s : State) :
    setPixel c p (setPixel c p s) = setPixel c p s := by
  rw [setPixel, fbByte_setPixel, if_pos rfl, setPixelBit_setPixelBit _ (pixelBit_lt p)]
  simp only [setPixel, Memory.write_write_same]

/-- The pixel write inside the logical area (40_framebuffer.md R135). -/
theorem drawPixel_inside {s : State} (h : inArea s.rot s.lat.x.toInt s.lat.y.toInt = true) :
    drawPixel s = .next (setPixel s.lat.color (xlate s.rot s.lat.x.toInt.toNat s.lat.y.toInt.toNat) s) := by
  rcases drawPixel_cases s with ⟨hout, -⟩ | ⟨-, hs⟩
  · exact absurd (hout.symm.trans h) (by decide)
  · exact hs

/-- An accepted DRAW_PIXEL inside the logical area draws its pixel (40_framebuffer.md R135). -/
theorem exec_drawPixel_inside {s : State} (f : ReqFields) {x y : Nat} (hb : s.busy = false)
    (hx : (s.arg0.extractLsb' 0 16).toInt = x) (hy : (s.arg0.extractLsb' 16 16).toInt = y)
    (hw : x < (logicalSize s.rot).1) (hh : y < (logicalSize s.rot).2) :
    ∃ t, exec (.drawPixel f) s = .next t ∧ PixelDrawn f.color (xlate s.rot x y) s t ∧
      t = { latchPoint 0x15#8 f (clearError s) with fb := t.fb } := by
  have hin : inArea s.rot (s.arg0.extractLsb' 0 16).toInt (s.arg0.extractLsb' 16 16).toInt = true :=
    (inArea_iff ..).2 ⟨x, y, hx, hy, hw, hh⟩
  rw [exec_drawPixel f hb]
  refine ⟨_, drawPixel_inside hin, ?_, rfl⟩
  simp only [latchPoint_lat, latchPoint_rot, clearError_rot, clearError_arg0, lowHalf, highHalf, hx, hy,
    Int.toNat_natCast]
  exact pixelDrawn_setPixel ..

/-- Of the pixels of the panel, the drawn one has the colour and the others are as before. -/
theorem PixelDrawn.pixelAt {s t : State} {c : Colour} {p q : Nat × Nat} (h : PixelDrawn c p s t) (hp : p.1 < 264)
    (hq : q.1 < 264) : Machine.pixelAt t q = if q = p then decide (c = .white) else Machine.pixelAt s q := by
  obtain ⟨hbyte, hother⟩ := h
  unfold Machine.pixelAt
  by_cases hi : pixelIndex q = pixelIndex p
  · rw [hi, hbyte, getLsbD_setPixelBit _ _ (pixelBit_lt p) (pixelBit_lt q)]
    by_cases hbit : pixelBit q = pixelBit p
    · rw [if_pos hbit, if_pos (pixel_eq_of_index_bit hq hp hi hbit)]
    · rw [if_neg hbit, if_neg fun h => hbit (congrArg pixelBit h)]
  · rw [hother _ hi, if_neg fun h => hi (congrArg pixelIndex h)]

/-- The pixel write changes FB alone, and repeated at once changes nothing more (20_memory.md R72). -/
theorem drawPixel_drawPixel {s t : State} (h : drawPixel s = .next t) :
    (∃ fb, t = { s with fb := fb }) ∧ drawPixel t = .next t := by
  cases hin : inArea s.rot s.lat.x.toInt s.lat.y.toInt with
  | false =>
    cases (if_neg (Bool.eq_false_iff.1 hin) : drawPixel s = .next s).symm.trans h
    exact ⟨⟨s.fb, rfl⟩, h⟩
  | true =>
    cases (drawPixel_inside hin).symm.trans h
    refine ⟨⟨_, rfl⟩, (drawPixel_inside (s := setPixel _ _ s) hin).trans ?_⟩
    exact congrArg _ (setPixel_setPixel ..)

/-! ## Drawing many pixels -/

/-- The operand word of a coordinate reads back as that coordinate. -/
theorem packHalves_point {x y : Nat} (hx : x < 264) (hy : y < 264) :
    ((packHalves x y).extractLsb' 0 16).toInt = x ∧ ((packHalves x y).extractLsb' 16 16).toInt = y := by
  have fits {n : Nat} (hn : n < 264) : fitsSigned n = true := by
    simp only [fitsSigned, Bool.and_eq_true, decide_eq_true_eq]
    omega
  exact ⟨(congrArg BitVec.toInt (lowHalf_packHalves x y)).trans (toInt_ofInt_of_fitsSigned (fits hx)),
    (congrArg BitVec.toInt (highHalf_packHalves x y)).trans (toInt_ofInt_of_fitsSigned (fits hy))⟩

/-- Drawing logical pixels completes, sets the bits of theirs, and leaves every other bit of FB, ROT, RBUF and the trace
alone. -/
theorem drawAll_white {ps : List (Nat × Nat)} {s : State} (hb : s.busy = false)
    (hps : ∀ p ∈ ps, p.1 < (logicalSize s.rot).1 ∧ p.2 < (logicalSize s.rot).2) :
    ∃ t, drawAll .white ps s = .next t ∧
      (∀ q : Nat × Nat, q.1 < 264 → (pixelAt s q = true ∨ ∃ p ∈ ps, q = xlate s.rot p.1 p.2) → pixelAt t q = true) ∧
      (∀ j, 5808 ≤ j → fbByte t j = fbByte s j) ∧ t.rot = s.rot ∧ t.rbuf = s.rbuf ∧ t.trace = s.trace := by
  induction ps generalizing s with
  | nil => exact ⟨s, rfl, by simp, fun _ _ => rfl, rfl, rfl, rfl⟩
  | cons p ps ih =>
    obtain ⟨⟨hx, hy⟩, hps⟩ := List.forall_mem_cons.1 hps
    obtain ⟨hw, hh⟩ := logicalSize_le s.rot
    obtain ⟨hx', hy'⟩ := packHalves_point (hx.trans_le hw) (hy.trans_le hh)
    obtain ⟨u, hu, hdrawn, hframe⟩ := exec_drawPixel_inside (s := { s with arg0 := packHalves p.1 p.2 })
      { noFields with color := .white } hb hx' hy' hx hy
    have hdrawn : PixelDrawn .white (xlate s.rot p.1 p.2) s u := hdrawn
    have hrotu : u.rot = s.rot := by rw [hframe]; rfl
    obtain ⟨t, ht, hpix, hout, hrot, hrbuf, htrace⟩ := ih (s := u) (by rw [hframe]; exact hb) (by rwa [hrotu])
    have hp : (xlate s.rot p.1 p.2).1 < 264 := (xlate_lt hx hy).1
    have hindex : pixelIndex (xlate s.rot p.1 p.2) < 5808 := pixelIndex_lt hp (xlate_lt hx hy).2
    refine ⟨t, ?_, fun q hq hset => hpix q hq ?_, fun j hj => ?_, hrot.trans hrotu, ?_, ?_⟩
    · rw [drawAll, hu]; exact ht
    · rw [hrotu, hdrawn.pixelAt hp hq]
      rcases hset with hset | ⟨p', hp', rfl⟩
      · left; split
        · rfl
        · exact hset
      · rcases List.mem_cons.1 hp' with rfl | hp'
        · left; rw [if_pos rfl]; rfl
        · exact .inr ⟨p', hp', rfl⟩
    · exact (hout j hj).trans (hdrawn.2 j (by omega))
    · rw [hrbuf, hframe]; rfl
    · rw [htrace, hframe]; rfl

/-- Every logical coordinate of an orientation is listed. -/
theorem mem_logicalPixels (r : Rotation) (x y : Nat) :
    (x, y) ∈ logicalPixels r ↔ x < (logicalSize r).1 ∧ y < (logicalSize r).2 := by
  simp [logicalPixels, and_comm]

/-! ## The obligations -/

/-- Settles O51. -/
theorem translationIsABijection : Obligations.TranslationIsABijection :=
  ⟨fun _ _ => ⟨rfl, rfl, rfl, rfl⟩, fun r => by cases r <;> rfl, fun r =>
    ⟨fun _ _ => xlate_lt, fun _ _ => xlate_surjective r, fun _ _ _ _ => xlate_injective⟩⟩

/-- Settles O52. -/
theorem framebufferMap : Obligations.FramebufferMap :=
  ⟨fun _ _ => framebufferMap_bit, fun _ _ => pixel_eq_of_index_bit⟩

/-- Settles O19. -/
theorem drawPixelWritesExactlyOnePixel : Obligations.DrawPixelWritesExactlyOnePixel := by
  intro f s x y hb hx hy hw hh
  obtain ⟨hp, -⟩ := xlate_lt hw hh
  obtain ⟨t, ht, hdrawn, hframe⟩ := exec_drawPixel_inside f hb hx hy hw hh
  exact ⟨t, ht, fun px py hpx _ => hdrawn.pixelAt hp hpx, hdrawn.2, hframe⟩

/-- Settles O20. -/
theorem drawPixelOutOfBoundsIsIgnored : Obligations.DrawPixelOutOfBoundsIsIgnored := by
  rintro f s x y hb rfl rfl hout
  refine exec_drawPixel_outside f hb (Bool.eq_false_iff.2 fun hin => ?_)
  obtain ⟨a, b, ha, hb, hw, hh⟩ := (inArea_iff ..).1 hin
  rw [ha, hb] at hout
  cases hr : s.rot <;> simp only [hr, logicalSize, WIDTH, HEIGHT] at hout hw hh <;> omega

/-- Settles O53. -/
theorem drawPixelIsIdempotent : Obligations.DrawPixelIsIdempotent := by
  intro f s t u ht hu
  cases hb : s.busy with
  | true =>
    cases (exec_request_busy rfl hb).symm.trans ht
    cases (exec_request_busy (s := raise .requestWhileBusy s) rfl hb).symm.trans hu
    rfl
  | false =>
    rw [exec_drawPixel f hb] at ht
    obtain ⟨⟨fb, rfl⟩, hagain⟩ := drawPixel_drawPixel ht
    rw [exec_drawPixel (s := { latchPoint 0x15#8 f (clearError s) with fb := fb }) f hb] at hu
    cases hagain.symm.trans hu
    rfl

/-- Settles O54. -/
theorem drawingAllWhiteGivesTheResetFrame : Obligations.DrawingAllWhiteGivesTheResetFrame := by
  intro s hb
  obtain ⟨t, ht, hpix, hout, hrot, hrbuf, htrace⟩ := drawAll_white (ps := logicalPixels s.rot) hb
    fun p hp => (mem_logicalPixels ..).1 hp
  refine ⟨t, ht, fun i hi => ?_, hout, hrot, hrbuf, htrace⟩
  apply BitVec.eq_of_getLsbD_eq
  intro j hj
  obtain ⟨hpx, hpy, hindex, hbit⟩ := framebufferMap_bit hi (k := 7 - j) (by omega)
  obtain ⟨x, y, hx, hy, hxy⟩ := xlate_surjective s.rot hpx hpy
  have hset := hpix _ hpx (.inr ⟨(x, y), (mem_logicalPixels ..).2 ⟨hx, hy⟩, hxy.symm⟩)
  rw [pixelAt, hindex, hbit, show 7 - (7 - j) = j by omega] at hset
  rw [hset]
  interval_cases j <;> rfl

end Sys2Proof.Machine
end
